-- ==== Sys2Proof/Word.lean ====
section
/-! DEFINITION. The word types of SPECEST and its fixed capacities (00_scope.md R9, section 4). -/

namespace Sys2Proof

/-- A 32-bit register word on the host bus (20_memory.md R63). -/
abbrev Word := BitVec 32

/-- A binary16 bit pattern, the `f16` of 40_fp16.md R100. -/
abbrev F16 := BitVec 16

/-- A byte offset inside the 32 KiB aperture, 0x0000 to 0x7FFF (20_memory.md R60). -/
abbrev Offset := BitVec 15

/-- MAX_CHANNELS (00_scope.md R9). -/
abbrev maxChannels : Nat := 20

/-- C, the ring capacity and window length (00_scope.md R9). -/
abbrev ringCapacity : Nat := 250

/-- N, the transform size and Hann table length (00_scope.md R9). -/
abbrev transformSize : Nat := 1024

/-- NBINS, the number of bins searched (00_scope.md R9). -/
abbrev numBins : Nat := 512

/-- A channel index, 0 to MAX_CHANNELS - 1. -/
abbrev Channel := Fin 20

/-- A slot index, write cursor or snapshot position, 0 to C - 1 (10_state.md R31, R32). -/
abbrev Slot := Fin 250

end Sys2Proof
end

