-- ==== Sys2Proof/Config.lean ====
section
/-! DEFINITION. The parameters the spec leaves open (00_scope.md R11). They are opaque: no proof can learn a value,
so a claim holds for every platform. No rule of the spec depends on them, and the step reads none of them. -/

namespace Sys2Proof.Config

/-- BASE_ADDR divided by 0x8000. BASE_ADDR is an open parameter that must be a multiple of 0x8000 (R11, R60, D34;
log 7). -/
opaque basePage : Nat

/-- STEP_LATENCY, the finite time a STEP holds the bus. It may depend on NUM_CHANNELS and on whether a pass runs
(R11, 70_reset_and_hazards.md R305, D35; log 14). -/
opaque stepLatency : Word → Bool → Nat

/-- INIT_LATENCY, the finite time an INIT holds the bus (R11, R305, D35; log 14). -/
opaque initLatency : Nat

/-- BASE_ADDR, the platform address of offset 0 of the aperture (R11). -/
def baseAddr : Nat := basePage * 0x8000

end Sys2Proof.Config
end

