-- ==== Sys2Proof/Syntax.lean ====
section
/-! DEFINITION. The syntax of SPECEST: its registers, its bus accesses and its instructions. SPECEST runs no
instruction stream (10_state.md R39). Its instructions are the host's bus accesses and the commands a host writes to
CMD (30_encoding.md, introduction). -/

namespace Sys2Proof

/-- The registers of the aperture, one constructor per row of the register map (30_encoding.md R80). -/
inductive Register where
  | id
  | config
  | cmd
  | status
  | numChannels
  | sampleInterval
  | freqOut
  | peakBin
  | peakMag2
  | elapsed
  | chSample (c : Channel)
  | rbCursor (c : Channel)
  | rbSnap (c : Channel) (j : Slot)
  deriving DecidableEq, Repr

/-- The direction of a bus access. -/
inductive Direction where
  | read
  | write
  deriving DecidableEq, Repr

/-- One bus transaction that reaches the block, the spec's encoding of an instruction (30_encoding.md R96):
its direction, its width in bytes, its offset from BASE_ADDR and, for a write, its data word. A read carries no data;
its `data` is 0. -/
structure Access where
  dir  : Direction
  size : Nat
  off  : Offset
  data : Word
  deriving DecidableEq, Repr

/-- The instructions: one constructor per row of opcode_table.json. -/
inductive Instr where
  /-- NOP, command word 0 (42_commands.md R168). -/
  | nop
  /-- INIT, command word 1 (R169). -/
  | init
  /-- STEP, command word 2 (R170). -/
  | step
  /-- WR.CMD, a write of a command word to CMD (R167). The words 0, 1 and 2 are the three commands above. -/
  | wrCmd (w : Word)
  /-- WR.NUM_CHANNELS (R163). -/
  | wrNumChannels (w : Word)
  /-- WR.SAMPLE_INTERVAL (R164). -/
  | wrSampleInterval (w : Word)
  /-- WR.CH_SAMPLE (R162). -/
  | wrChSample (c : Channel) (w : Word)
  /-- WR.RO_OR_RESERVED, a write at any offset no other write row matches (R165). -/
  | wrRoOrReserved (off : Offset) (w : Word)
  /-- RD.ID (R161, 30_encoding.md R82). -/
  | rdId
  /-- RD.CONFIG (R161, 30_encoding.md R83). -/
  | rdConfig
  /-- RD.CMD (R161, 30_encoding.md R84). -/
  | rdCmd
  /-- RD.STATUS (R161, 30_encoding.md R87). -/
  | rdStatus
  /-- RD.NUM_CHANNELS (R161, R163). -/
  | rdNumChannels
  /-- RD.SAMPLE_INTERVAL (R161, R164). -/
  | rdSampleInterval
  /-- RD.FREQ_OUT (R161, R166). -/
  | rdFreqOut
  /-- RD.PEAK_BIN (R161, 30_encoding.md R90). -/
  | rdPeakBin
  /-- RD.PEAK_MAG2 (R161, R166). -/
  | rdPeakMag2
  /-- RD.ELAPSED (R161). -/
  | rdElapsed
  /-- RD.CH_SAMPLE (R161, R162). -/
  | rdChSample (c : Channel)
  /-- RD.RB_CURSOR (R161, 30_encoding.md R91). -/
  | rdRbCursor (c : Channel)
  /-- RD.RB_SNAP (R161, 30_encoding.md R92). -/
  | rdRbSnap (c : Channel) (j : Slot)
  /-- RD.RESERVED, a read at any offset no other read row matches (R161, 30_encoding.md R93). -/
  | rdReserved (off : Offset)
  deriving DecidableEq, Repr

end Sys2Proof
end

