-- ==== Sys2Proof/WellFormed.lean ====
section
/-! DEFINITION. Which terms of `Instr` an access of the host can be. Channel and slot indices are in range by their
types, so the checks left are those of the three "everything else" rows. They are written as the offset ranges of the
register map (30_encoding.md R80, R93), apart from the decoder, which reads bit fields. -/

namespace Sys2Proof

/-- `off` is that of a register a write can go to: CMD, NUM_CHANNELS, SAMPLE_INTERVAL, CH_SAMPLE[c] (R80). -/
def isWritableOffset (off : Offset) : Bool :=
  off.toNat == 0x0008 || off.toNat == 0x0010 || off.toNat == 0x0014 ||
  (off.toNat % 4 == 0 && 0x0080 ≤ off.toNat && off.toNat ≤ 0x00CC)

/-- `off` is that of a register a read can go to: every row of R80 but the reserved one. The reserved offsets are
those of R93 and the unaligned ones (R81). -/
def isReadableOffset (off : Offset) : Bool :=
  off.toNat % 4 == 0 &&
  (off.toNat ≤ 0x0024 ||
   (0x0080 ≤ off.toNat && off.toNat ≤ 0x00CC) ||
   (0x0100 ≤ off.toNat && off.toNat ≤ 0x014C) ||
   (0x1000 ≤ off.toNat && off.toNat < 0x6000 && off.toNat % 0x400 < 0x3E8))

/-- An instruction some access stands for. A write of 0, 1 or 2 to CMD is a command row, not WR.CMD (R167);
the two reserved rows take only the offsets no other row of their direction takes (R165, R161). -/
def Instr.wellFormed : Instr → Bool
  | .wrCmd w => w != 0 && w != 1 && w != 2
  | .wrRoOrReserved off _ => !isWritableOffset off
  | .rdReserved off => !isReadableOffset off
  | .nop | .init | .step | .wrNumChannels _ | .wrSampleInterval _ | .wrChSample _ _ => true
  | .rdId | .rdConfig | .rdCmd | .rdStatus | .rdNumChannels | .rdSampleInterval | .rdFreqOut => true
  | .rdPeakBin | .rdPeakMag2 | .rdElapsed | .rdChSample _ | .rdRbCursor _ | .rdRbSnap _ _ => true

end Sys2Proof
end

