-- ==== Sys2Proof/Decode.lean ====
section
/-! DEFINITION. Decoding an access of the host into an instruction and encoding an instruction as an access
(30_encoding.md R80 to R86, R92, R93, R96). Decoding reads no state (R81). -/

namespace Sys2Proof

/-- Why the decoder refuses an access. -/
inductive DecodeError where
  /-- The access is not one whole 32-bit access, so no register is decoded (30_encoding.md R81, 20_memory.md R63).
  The step answers it with BUS_ERROR. Safe: it is the response the spec names. -/
  | notWholeWord
  deriving DecidableEq, Repr

/-- The channel field off[6:2] of the CH_SAMPLE and RB_CURSOR windows, 0 to 19 only (R80, R93). -/
def channelField (off : Offset) : Option Channel :=
  if h : (off.extractLsb' 2 5).toNat < 20 then some ⟨(off.extractLsb' 2 5).toNat, h⟩ else none

/-- The RB_SNAP window: off[14:10] = c + 4 for c in 0 to 19 and off[9:2] = j in 0 to 249 (R92). -/
def snapField (off : Offset) : Option Register :=
  if hc : 4 ≤ (off.extractLsb' 10 5).toNat ∧ (off.extractLsb' 10 5).toNat - 4 < 20 then
    if hj : (off.extractLsb' 2 8).toNat < 250 then
      some (.rbSnap ⟨(off.extractLsb' 10 5).toNat - 4, hc.2⟩ ⟨(off.extractLsb' 2 8).toNat, hj⟩)
    else none
  else none

/-- The register at an offset: the map of R80, `none` at an unaligned or reserved offset (R81, R93). -/
def registerAt (off : Offset) : Option Register :=
  if off.extractLsb' 0 2 ≠ 0#2 then none
  else if off = 0x0000#15 then some .id
  else if off = 0x0004#15 then some .config
  else if off = 0x0008#15 then some .cmd
  else if off = 0x000C#15 then some .status
  else if off = 0x0010#15 then some .numChannels
  else if off = 0x0014#15 then some .sampleInterval
  else if off = 0x0018#15 then some .freqOut
  else if off = 0x001C#15 then some .peakBin
  else if off = 0x0020#15 then some .peakMag2
  else if off = 0x0024#15 then some .elapsed
  else if off.extractLsb' 7 8 = 0x01#8 then (channelField off).map .chSample
  else if off.extractLsb' 7 8 = 0x02#8 then (channelField off).map .rbCursor
  else snapField off

/-- The command a CMD write selects by exact match of the whole word (R85, R167). Every other word is reserved (R86)
and stays with WR.CMD. -/
def decodeCommand (w : Word) : Instr :=
  if w = 0#32 then .nop
  else if w = 1#32 then .init
  else if w = 2#32 then .step
  else .wrCmd w

/-- The instruction of a whole 32-bit write (42_commands.md R160). -/
def decodeWrite (off : Offset) (w : Word) : Instr :=
  match registerAt off with
  | some .cmd => decodeCommand w
  | some .numChannels => .wrNumChannels w
  | some .sampleInterval => .wrSampleInterval w
  | some (.chSample c) => .wrChSample c w
  | some .id | some .config | some .status | some .freqOut | some .peakBin | some .peakMag2 => .wrRoOrReserved off w
  | some .elapsed | some (.rbCursor _) | some (.rbSnap _ _) | none => .wrRoOrReserved off w

/-- The instruction of a whole 32-bit read (42_commands.md R161). -/
def decodeRead (off : Offset) : Instr :=
  match registerAt off with
  | some .id => .rdId
  | some .config => .rdConfig
  | some .cmd => .rdCmd
  | some .status => .rdStatus
  | some .numChannels => .rdNumChannels
  | some .sampleInterval => .rdSampleInterval
  | some .freqOut => .rdFreqOut
  | some .peakBin => .rdPeakBin
  | some .peakMag2 => .rdPeakMag2
  | some .elapsed => .rdElapsed
  | some (.chSample c) => .rdChSample c
  | some (.rbCursor c) => .rdRbCursor c
  | some (.rbSnap c j) => .rdRbSnap c j
  | none => .rdReserved off

/-- The decoder, total on every access (R81). An access that is not one 32-bit access is refused by name. -/
def decode (a : Access) : Except DecodeError Instr :=
  if a.size ≠ 4 then .error .notWholeWord
  else match a.dir with
    | .write => .ok (decodeWrite a.off a.data)
    | .read => .ok (decodeRead a.off)

/-- The offset of a register (R80, R92). -/
def Register.offset : Register → Offset
  | .id => 0x0000#15
  | .config => 0x0004#15
  | .cmd => 0x0008#15
  | .status => 0x000C#15
  | .numChannels => 0x0010#15
  | .sampleInterval => 0x0014#15
  | .freqOut => 0x0018#15
  | .peakBin => 0x001C#15
  | .peakMag2 => 0x0020#15
  | .elapsed => 0x0024#15
  | .chSample c => BitVec.ofNat 15 (0x0080 + 4 * c.val)
  | .rbCursor c => BitVec.ofNat 15 (0x0100 + 4 * c.val)
  | .rbSnap c j => BitVec.ofNat 15 (0x1000 + 0x400 * c.val + 4 * j.val)

/-- `WR off, v` (R96). -/
def Access.wr (off : Offset) (v : Word) : Access := { dir := .write, size := 4, off := off, data := v }

/-- `RD off` (R96). -/
def Access.rd (off : Offset) : Access := { dir := .read, size := 4, off := off, data := 0#32 }

/-- The encoder: the bus transaction of an instruction (R85, R96). -/
def encode : Instr → Access
  | .nop => .wr (Register.offset .cmd) 0x00000000#32
  | .init => .wr (Register.offset .cmd) 0x00000001#32
  | .step => .wr (Register.offset .cmd) 0x00000002#32
  | .wrCmd w => .wr (Register.offset .cmd) w
  | .wrNumChannels w => .wr (Register.offset .numChannels) w
  | .wrSampleInterval w => .wr (Register.offset .sampleInterval) w
  | .wrChSample c w => .wr (Register.offset (.chSample c)) w
  | .wrRoOrReserved off w => .wr off w
  | .rdId => .rd (Register.offset .id)
  | .rdConfig => .rd (Register.offset .config)
  | .rdCmd => .rd (Register.offset .cmd)
  | .rdStatus => .rd (Register.offset .status)
  | .rdNumChannels => .rd (Register.offset .numChannels)
  | .rdSampleInterval => .rd (Register.offset .sampleInterval)
  | .rdFreqOut => .rd (Register.offset .freqOut)
  | .rdPeakBin => .rd (Register.offset .peakBin)
  | .rdPeakMag2 => .rd (Register.offset .peakMag2)
  | .rdElapsed => .rd (Register.offset .elapsed)
  | .rdChSample c => .rd (Register.offset (.chSample c))
  | .rdRbCursor c => .rd (Register.offset (.rbCursor c))
  | .rdRbSnap c j => .rd (Register.offset (.rbSnap c j))
  | .rdReserved off => .rd off

/-- The access a word of opcode_table.json stands for. A 32-bit word is a CMD row: the command word W, written to CMD.
A 16-bit word is an MMIO row: bits 14..0 are the offset, and bit 15, which the table gives no row, is the direction
(0 a read, 1 a write), because the rows of the two directions share their other bits (DESIGN CHOICE, log 2). The
table gives a write's data word no bits, so it is 0. -/
def tableAccess (nbits w : Nat) : Option Access :=
  if nbits = 32 then some (.wr (Register.offset .cmd) (BitVec.ofNat 32 w))
  else if nbits = 16 then
    if w.testBit 15 then some (.wr (BitVec.ofNat 15 w) 0#32) else some (.rd (BitVec.ofNat 15 w))
  else none

/-- The instruction the decoder reads from a word of opcode_table.json. -/
def decodeTableWord (nbits w : Nat) : Option Instr :=
  match tableAccess nbits w with
  | none => none
  | some a =>
    match decode a with
    | .ok i => some i
    | .error _ => none

end Sys2Proof
end

