-- ==== Sys2Proof/Machine/Fp16.lean ====
section
/-! DEFINITION. Binary16 arithmetic (40_fp16.md): the format, the rounding and the primitives. Every finite value is an
integer multiple of 2^-24, so exact sums, products and quotients are fractions of integers; a primitive forms the exact
fraction and rounds it once (R114; log 17). -/

namespace Sys2Proof.Machine

/-- +0 (R115). -/
abbrev zero16 : F16 := 0x0000#16
/-- 0.5 (R115). -/
abbrev half16 : F16 := 0x3800#16
/-- 1.0, the calculation interval (R115, 43_cadence.md R193). -/
abbrev one16 : F16 := 0x3C00#16
/-- 1024.0 (R115). -/
abbrev n16 : F16 := 0x6400#16
/-- The only NaN a primitive produces (R111). -/
abbrev qnan16 : F16 := 0x7E00#16

/-- The sign bit x[15] (R100), `true` for 1. -/
def sign16 (x : F16) : Bool := x.getLsbD 15
/-- The biased exponent x[14:10] (R100). -/
def expo16 (x : F16) : Nat := (x.extractLsb' 10 5).toNat
/-- The fraction x[9:0] (R100). -/
def frac16 (x : F16) : Nat := (x.extractLsb' 0 10).toNat

/-- The NaN class (R100). -/
def isNaN16 (x : F16) : Bool := expo16 x == 31 && frac16 x != 0
/-- The infinity class (R100). -/
def isInf16 (x : F16) : Bool := expo16 x == 31 && frac16 x == 0
/-- The zero class (R100). -/
def isZero16 (x : F16) : Bool := expo16 x == 0 && frac16 x == 0
/-- Zero, subnormal or normal: the classes that have a value (R101). -/
def isFinite16 (x : F16) : Bool := expo16 x != 31

/-- |val(x)| in units of 2^-24, for a finite x (R100, R101): f for a zero or subnormal, (1024 + f) * 2^(e - 1) for a
normal. -/
def mag24 (x : F16) : Nat :=
  if expo16 x = 0 then frac16 x else (1024 + frac16 x) * 2 ^ (expo16 x - 1)

/-- val(x) in units of 2^-24, for a finite x (R101). -/
def val24 (x : F16) : Int := if sign16 x then -(mag24 x : Int) else (mag24 x : Int)

/-- The pattern s ++ e ++ f (R100). -/
def pack16 (s : Bool) (e : BitVec 5) (f : BitVec 10) : F16 := BitVec.ofBool s ++ e ++ f

/-- The zero of sign s. -/
def signedZero16 (s : Bool) : F16 := pack16 s 0#5 0#10
/-- The infinity of sign s. -/
def signedInf16 (s : Bool) : F16 := pack16 s 31#5 0#10

/-- The integer nearest a / d; if a / d is exactly halfway, the even one (R102). -/
def nearestEven (a d : Nat) : Nat :=
  if d < 2 * (a % d) ∨ (2 * (a % d) = d ∧ (a / d) % 2 = 1) then a / d + 1 else a / d

/-- The end of R102: the pattern of sign s for the significand n <= 2048 in the binade E = k - 14. -/
def finish16 (s : Bool) (k n : Nat) : F16 :=
  if n = 2048 then
    if 29 < k + 1 then signedInf16 s else pack16 s (BitVec.ofNat 5 (k + 2)) 0#10
  else if 29 < k then signedInf16 s
  else if n < 1024 then pack16 s 0#5 (BitVec.ofNat 10 n)
  else pack16 s (BitVec.ofNat 5 (k + 1)) (BitVec.ofNat 10 (n - 1024))

/-- The binade of a / d, for a value in units of 2^-24: E + 14 with E = max(floor(log2 v), -14) (R102). Below 2^11 units
it is 0, the subnormal and first normal binade. -/
def binade24 (a d : Nat) : Nat := Nat.log2 (a / d) - 10

/-- The rounding of R102 for a positive a / d in units of 2^-24: the significand q = v / 2^(E - 10) is a / (d * 2^k) for
the binade k = E + 14. -/
def round24 (s : Bool) (a d : Nat) : F16 :=
  finish16 s (binade24 a d) (nearestEven a (d * 2 ^ binade24 a d))

/-- rnd16(v, zs) for the exact value v = num / den, den > 0 (R102). -/
def rnd16 (num : Int) (den : Nat) (zs : Bool) : F16 :=
  if num = 0 then signedZero16 zs else round24 (decide (num < 0)) (num.natAbs * 2 ^ 24) den

/-- add16, binary16 addition (R104). -/
def add16 (a b : F16) : F16 :=
  if isNaN16 a || isNaN16 b then qnan16
  else if isInf16 a && isInf16 b && sign16 a != sign16 b then qnan16
  else if isInf16 a then a
  else if isInf16 b then b
  else if val24 a + val24 b = 0 then signedZero16 (sign16 a && sign16 b)
  else rnd16 (val24 a + val24 b) (2 ^ 24) false

/-- neg16, the flip of the sign bit of any pattern (R105). -/
def neg16 (a : F16) : F16 := a ^^^ 0x8000#16

/-- sub16 (R106). -/
def sub16 (a b : F16) : F16 := add16 a (neg16 b)

/-- mul16, binary16 multiplication (R107). -/
def mul16 (a b : F16) : F16 :=
  if isNaN16 a || isNaN16 b then qnan16
  else if (isInf16 a && isZero16 b) || (isZero16 a && isInf16 b) then qnan16
  else if isInf16 a || isInf16 b then signedInf16 (sign16 a ^^ sign16 b)
  else rnd16 (val24 a * val24 b) (2 ^ 48) (sign16 a ^^ sign16 b)

/-- div16, binary16 division (R108). The exact quotient of the finite values is that of their units of 2^-24, with the
sign of the divisor moved to the dividend. -/
def div16 (a b : F16) : F16 :=
  if isNaN16 a || isNaN16 b then qnan16
  else if isInf16 a && isInf16 b then qnan16
  else if isZero16 a && isZero16 b then qnan16
  else if isInf16 a then signedInf16 (sign16 a ^^ sign16 b)
  else if isInf16 b then signedZero16 (sign16 a ^^ sign16 b)
  else if isZero16 b then signedInf16 (sign16 a ^^ sign16 b)
  else rnd16 (if sign16 b then -val24 a else val24 a) (mag24 b) (sign16 a ^^ sign16 b)

/-- lt16: a is less than b in the order -infinity < every finite value < +infinity, false on a NaN (R109). -/
def lt16 (a b : F16) : Bool :=
  if isNaN16 a || isNaN16 b then false
  else if isInf16 a then sign16 a && !(isInf16 b && sign16 b)
  else if isInf16 b then !sign16 b
  else decide (val24 a < val24 b)

/-- gt16(a, b) = lt16(b, a) (R109). -/
def gt16 (a b : F16) : Bool := lt16 b a

/-- cvt16, the conversion of a non-negative integer (R110). -/
def cvt16 (n : Nat) : F16 := rnd16 n 1 false

end Sys2Proof.Machine
end

