-- ==== Sys2Proof/Machine/State.lean ====
section
/-! DEFINITION. The state of one SPECEST instance: the record of 10_state.md R20, the control state (R38), the working
memories (R37), and the model's own two lists, the inputs not yet serviced and the responses given (00_scope.md R13).
Instances never interact (R42), so one `State` is one instance. -/

namespace Sys2Proof.Machine

/-- The ring-buffer storage RB (10_state.md R30), the block's only memory: pairs of a slot number and the binary16
value in it, by rising slot number, with no pair that holds +0. A slot that is not listed holds +0, the value reset
and INIT give it (41_ring_buffer.md R140). Slot s of channel c has the number 250 * c + s (log 9). -/
abbrev Memory := List (Nat × F16)

/-- The control state (10_state.md R38). -/
inductive Control where
  /-- No command is in progress: the state between any two host accesses. -/
  | idle
  /-- A STEP or INIT is in progress and the bus is held (20_memory.md R68). -/
  | compute
  deriving DecidableEq, Repr

/-- What the host receives for one access (00_scope.md R13). -/
inductive Response where
  /-- A write was accepted (42_commands.md R160). -/
  | ok
  /-- A read was accepted and returns this word (42_commands.md R161). -/
  | data (w : Word)
  /-- The access got the BUS_ERROR response. It carries no data (60_exceptions.md R273; log 11). -/
  | busError
  deriving DecidableEq, Repr

/-- What the platform presents to the block. -/
inductive Input where
  /-- A bus access inside the aperture (00_scope.md R12). -/
  | access (a : Access)
  /-- The hardware reset signal, or power returning (70_reset_and_hazards.md R290, 60_exceptions.md R284; log 5). -/
  | reset
  deriving DecidableEq, Repr

/-- The four internal working memories (10_state.md R37). No host access reaches them. -/
structure Scratch where
  /-- ACC, the frequency-domain accumulator, 1024 words. -/
  acc  : List F16
  /-- TD, the time-domain region, 1024 words. -/
  td   : List F16
  /-- SPEC, one channel's packed spectrum, 1024 words. -/
  spec : List F16
  /-- MAG, the magnitude-squared values, 512 words. -/
  mag  : List F16
  deriving DecidableEq, Repr

/-- The state. The first eleven fields are the record of 10_state.md R20. -/
structure State where
  /-- CH_SAMPLE[0..19] (R21). -/
  chSample       : Vector F16 20
  /-- NUM_CHANNELS (R22). -/
  numChannels    : BitVec 32
  /-- SAMPLE_INTERVAL (R23). -/
  sampleInterval : F16
  /-- STATUS.READY (R24). -/
  ready          : Bool
  /-- STATUS.ERRCODE (R25). -/
  errcode        : BitVec 4
  /-- FREQ_OUT (R26). -/
  freqOut        : F16
  /-- PEAK_BIN (R27). -/
  peakBin        : BitVec 9
  /-- PEAK_MAG2 (R28). -/
  peakMag2       : F16
  /-- ELAPSED (R29). -/
  elapsed        : F16
  /-- RB[0..19][0..249] (R30). -/
  rb             : Memory
  /-- CUR[0..19], each in 0..249 (R31, R32). -/
  cur            : Vector (Fin 250) 20
  /-- The control state (R38). -/
  control        : Control
  /-- ACC, TD, SPEC and MAG (R37). -/
  scratch        : Scratch
  /-- The model's own: inputs the block has not serviced, oldest first (20_memory.md R70; log 1). -/
  pending        : List Input
  /-- The model's own: responses the host has received, oldest first (00_scope.md R13; log 1). -/
  responses      : List Response
  deriving DecidableEq, Repr

/-- The reasons a step stops with a fault. There are none: a bad access gets a BUS_ERROR response and the block accepts
the next access (60_exceptions.md R273, R277), and no arithmetic faults (40_fp16.md R112). Safe: no behaviour is left
out (log 11). -/
inductive Fault where
  deriving DecidableEq, Repr

/-- The reasons a step refuses an instruction. -/
inductive Refusal where
  /-- Raised by `exec` for an instruction that has no meaning yet. No arm raises it. Safe: it stops. -/
  | notModelled (mnemonic : String)
  deriving DecidableEq, Repr

/-- The working memories after reset. The spec calls their contents unspecified (70_reset_and_hazards.md R291); +0 in
every word is the model's DESIGN CHOICE (log 6). -/
def Scratch.reset : Scratch where
  acc  := List.replicate 1024 0x0000#16
  td   := List.replicate 1024 0x0000#16
  spec := List.replicate 1024 0x0000#16
  mag  := List.replicate 512 0x0000#16

/-- The machine right after hardware reset (70_reset_and_hazards.md R290, R291), with no input pending and no response
given (log 1). -/
def State.reset : State where
  chSample       := Vector.replicate 20 0x0000#16
  numChannels    := 0#32
  sampleInterval := 0x0000#16
  ready          := false
  errcode        := 0#4
  freqOut        := 0x0000#16
  peakBin        := 0#9
  peakMag2       := 0x0000#16
  elapsed        := 0x0000#16
  rb             := []
  cur            := Vector.replicate 20 0
  control        := .idle
  scratch        := Scratch.reset
  pending        := []
  responses      := []

end Sys2Proof.Machine
end

