-- ==== Sys2Proof/Machine/Ops.lean ====
section
/-! DEFINITION. The named operations over the state: the register updates, the ring memory, the ring buffers
(41_ring_buffer.md), and the two ways an error is taken (60_exceptions.md): a BUS_ERROR response and a rejected
command. -/

namespace Sys2Proof.Machine

/-! ### Register updates -/

/-- CH_SAMPLE[c] <- v. -/
def State.setChSample (s : State) (c : Channel) (v : F16) : State := { s with chSample := s.chSample.set c.val v c.isLt }
/-- NUM_CHANNELS <- w. -/
def State.setNumChannels (s : State) (w : Word) : State := { s with numChannels := w }
/-- SAMPLE_INTERVAL <- v. -/
def State.setSampleInterval (s : State) (v : F16) : State := { s with sampleInterval := v }
/-- STATUS.READY <- r; STATUS.ERRCODE <- e. -/
def State.setStatus (s : State) (r : Bool) (e : BitVec 4) : State := { s with ready := r, errcode := e }
/-- FREQ_OUT <- freq; PEAK_BIN <- bin; PEAK_MAG2 <- mag. -/
def State.setResult (s : State) (freq : F16) (bin : BitVec 9) (mag : F16) : State :=
  { s with freqOut := freq, peakBin := bin, peakMag2 := mag }
/-- ELAPSED <- v. -/
def State.setElapsed (s : State) (v : F16) : State := { s with elapsed := v }
/-- The ring memory <- m. -/
def State.setRb (s : State) (m : Memory) : State := { s with rb := m }
/-- CUR[c] <- i. -/
def State.setCur (s : State) (c : Channel) (i : Slot) : State := { s with cur := s.cur.set c.val i c.isLt }
/-- The control state <- p (10_state.md R38). -/
def State.setControl (s : State) (p : Control) : State := { s with control := p }
/-- The working memories <- w (10_state.md R37). -/
def State.setScratch (s : State) (w : Scratch) : State := { s with scratch := w }
/-- The queue of inputs <- q. -/
def State.setPending (s : State) (q : List Input) : State := { s with pending := q }

/-! ### Responses and errors -/

/-- The host receives the response r to the access being serviced (00_scope.md R13). -/
def State.respond (s : State) (r : Response) : State := { s with responses := s.responses ++ [r] }

/-- raise BUS_ERROR: the access ends with the BUS_ERROR response and changes nothing else (60_exceptions.md R273).
There is nothing to return from: the block accepts the next access (R277). -/
def State.raiseBusError (s : State) : State := s.respond .busError

/-- reject(code): READY is cleared, ERRCODE says why, and nothing else changes (60_exceptions.md R271). -/
def State.reject (s : State) (code : BitVec 4) : State := s.setStatus false code

/-! ### The ring memory -/

/-- The value of a slot; a slot that is not listed holds +0 (41_ring_buffer.md R140; log 9). -/
def Memory.read : Memory → Nat → F16
  | [], _ => 0x0000#16
  | (k, v) :: m, i => if i = k then v else Memory.read m i

/-- The memory with v in slot i, in canonical form: +0 is not listed. -/
def Memory.write (i : Nat) (v : F16) : Memory → Memory
  | [] => if v = 0x0000#16 then [] else [(i, v)]
  | (k, w) :: m =>
    if i < k then (if v = 0x0000#16 then (k, w) :: m else (i, v) :: (k, w) :: m)
    else if i = k then (if v = 0x0000#16 then m else (i, v) :: m)
    else (k, w) :: Memory.write i v m

/-- The memory with +0 in the n slots from `base`. -/
def Memory.clear (base n : Nat) (m : Memory) : Memory :=
  m.filter fun p => !(decide (base ≤ p.1) && decide (p.1 < base + n))

/-- The canonical form: slot numbers strictly rising from at least `lo` and below 5000, and no slot that holds +0. -/
def Memory.wfFrom : Nat → Memory → Bool
  | _, [] => true
  | lo, (k, v) :: m => decide (lo ≤ k) && decide (k < 5000) && (v != 0x0000#16) && Memory.wfFrom (k + 1) m

/-- The memory is in its canonical form, so that equal contents are equal data. -/
def Memory.wf (m : Memory) : Bool := Memory.wfFrom 0 m

/-- The number of slot s of channel c. -/
def slotNumber (c : Channel) (s : Slot) : Nat := 250 * c.val + s.val

/-- RB[c][s] (10_state.md R30). -/
def State.slot (s : State) (c : Channel) (i : Slot) : F16 := Memory.read s.rb (slotNumber c i)

/-- RB[c][i] <- v. -/
def State.setSlot (s : State) (c : Channel) (i : Slot) (v : F16) : State :=
  s.setRb (Memory.write (slotNumber c i) v s.rb)

/-! ### The ring buffers (41_ring_buffer.md) -/

/-- (i + 1) mod 250. -/
def nextSlot (i : Slot) : Slot := ⟨(i.val + 1) % 250, Nat.mod_lt _ (by decide)⟩

/-- (i + j) mod 250. -/
def slotAfter (i j : Slot) : Slot := ⟨(i.val + j.val) % 250, Nat.mod_lt _ (by decide)⟩

/-- rb_reset(c): zero all slots, cursor 0 (R140). -/
def rbReset (c : Channel) (s : State) : State :=
  (s.setRb (Memory.clear (250 * c.val) 250 s.rb)).setCur c 0

/-- rb_push(c, v): write v at the cursor, advance the cursor modulo 250 (R141). -/
def rbPush (c : Channel) (v : F16) (s : State) : State :=
  (s.setSlot c s.cur[c] v).setCur c (nextSlot s.cur[c])

/-- Element j of rb_snapshot(c): the j-th oldest stored sample (R142). -/
def snapshotAt (c : Channel) (j : Slot) (s : State) : F16 := s.slot c (slotAfter s.cur[c] j)

/-- rb_snapshot(c): the 250 stored samples, oldest first (R142). It changes nothing. -/
def rbSnapshot (c : Channel) (s : State) : List F16 := (List.finRange 250).map fun j => snapshotAt c j s

/-- The active channels of a frame, c < nc, in ascending order (00_scope.md glossary, 44_window_rfft.md R222). -/
def activeChannels (nc : Word) : List Channel := (List.finRange 20).filter fun c => decide (c.val < nc.toNat)

/-- for c in 0..nc-1: rb_push(c, CH_SAMPLE[c]) (R144). -/
def ingest (nc : Word) (s : State) : State :=
  (activeChannels nc).foldl (fun t c => rbPush c t.chSample[c] t) s

/-- for c in 0..19: rb_reset(c) (42_commands.md R169). -/
def rbResetAll (s : State) : State := (List.finRange 20).foldl (fun t c => rbReset c t) s

end Sys2Proof.Machine
end

