-- ==== Sys2Proof/Machine/Flags.lean ====
section
/-! DEFINITION. The status bits. READY and ERRCODE are the only ones (10_state.md R40): there are no condition codes and
no IEEE flags. This file holds the word a read of STATUS returns and the checks that decide the two fields. -/

namespace Sys2Proof.Machine

/-- ERRCODE 0, no error (60_exceptions.md R270). -/
abbrev errNone : BitVec 4 := 0#4
/-- ERRCODE 1, BAD_CMD (R270). -/
abbrev errBadCmd : BitVec 4 := 1#4
/-- ERRCODE 2, ERR_NUM_CHANNELS (R270). -/
abbrev errNumChannels : BitVec 4 := 2#4
/-- ERRCODE 3, ERR_SAMPLE_INTERVAL (R270). -/
abbrev errSampleInterval : BitVec 4 := 3#4

/-- The STATUS word: READY in bit 0, ERRCODE in bits 11..8, every other bit 0 (30_encoding.md R87). -/
def statusWord (ready : Bool) (errcode : BitVec 4) : Word := (errcode ++ 0#7 ++ BitVec.ofBool ready).setWidth 32

/-- The first check of STEP that fails, in the order of 60_exceptions.md R274: more than 20 channels, then a sample
interval that is not greater than +0 (42_commands.md R170). -/
def stepError (nc : Word) (si : F16) : Option (BitVec 4) :=
  if 20 < nc.toNat then some errNumChannels
  else if !gt16 si zero16 then some errSampleInterval
  else none

/-- STATUS after a STEP or INIT that was accepted: ERRCODE 0 (R170, R174). -/
def State.accept (s : State) (ready : Bool) : State := s.setStatus ready errNone

end Sys2Proof.Machine
end

