-- ==== Sys2Proof/Machine/Cadence.lean ====
section
/-! DEFINITION. The cadence gate, steps 2 to 4 of STEP (43_cadence.md). It reads ELAPSED and the sample interval
only (R197). -/

namespace Sys2Proof.Machine

/-- Step 2: ELAPSED <- add16(ELAPSED, si) (R190). With si = 0x3E00 these rules bring ELAPSED to 0x6400 at STEP 2046, where
R196 (c), a derived rule, says 2047: the model follows R190, R192 and 40_fp16.md R102 (DEDUCED, log 19). -/
def accumulateElapsed (si : F16) (s : State) : State := s.setElapsed (add16 s.elapsed si)

/-- Step 3: the gate is closed while ELAPSED is below the calculation interval 1.0 (R191, R193). -/
def gateClosed (s : State) : Bool := lt16 s.elapsed one16

/-- Step 4: ELAPSED <- sub16(ELAPSED, 1.0), the remainder kept (R192). -/
def subtractInterval (s : State) : State := s.setElapsed (sub16 s.elapsed one16)

end Sys2Proof.Machine
end

