-- ==== Sys2Proof/Machine/Operands.lean ====
section
/-! DEFINITION. The operand forms: how a register is read into a bus word, how a written word becomes a register value,
and the byte lanes of a word (20_memory.md, 30_encoding.md, 42_commands.md R161). -/

namespace Sys2Proof.Machine

/-- The constant of the ID register (10_state.md R33). -/
def idWord : Word := 0x53504543#32

/-- The constant of the CONFIG register: N, C and MAX_CHANNELS (10_state.md R34, 30_encoding.md R83). -/
def configWord : Word := BitVec.ofNat 16 transformSize ++ BitVec.ofNat 8 ringCapacity ++ BitVec.ofNat 8 maxChannels

/-- zext_32 of a binary16 register: the value in bits 15..0, bits 31..16 zero (20_memory.md R66, 30_encoding.md R89). -/
def wordOfF16 (x : F16) : Word := x.setWidth 32

/-- What a write to a binary16 register stores: W[15:0], with W[31:16] ignored (20_memory.md R66, 30_encoding.md R89). -/
def f16OfWord (w : Word) : F16 := w.setWidth 16

/-- The word a read of a register returns (42_commands.md R161). It is a function of the state, so a read has no side
effect (20_memory.md R69). -/
def readRegister (r : Register) (s : State) : Word :=
  match r with
  | .id => idWord
  | .config => configWord
  | .cmd => 0x00000000#32
  | .status => statusWord s.ready s.errcode
  | .numChannels => s.numChannels
  | .sampleInterval => wordOfF16 s.sampleInterval
  | .freqOut => wordOfF16 s.freqOut
  | .peakBin => s.peakBin.setWidth 32
  | .peakMag2 => wordOfF16 s.peakMag2
  | .elapsed => wordOfF16 s.elapsed
  | .chSample c => wordOfF16 s.chSample[c]
  | .rbCursor c => BitVec.ofNat 32 (s.cur[c]).val
  | .rbSnap c j => wordOfF16 (snapshotAt c j s)

/-- Bus byte lane k carries bits [8k+7:8k] of the word: little-endian (20_memory.md R65). -/
def byteLane (w : Word) (k : Fin 4) : BitVec 8 := w.extractLsb' (8 * k.val) 8

/-- The word of four byte lanes, lane 0 first (20_memory.md R65). -/
def wordOfLanes (b0 b1 b2 b3 : BitVec 8) : Word := b3 ++ b2 ++ b1 ++ b0

end Sys2Proof.Machine
end

