-- ==== Sys2Proof/Machine/Detect.lean ====
section
/-! DEFINITION. Magnitude, peak search and frequency conversion, steps 7 to 9 of STEP (45_detect.md). -/

namespace Sys2Proof.Machine

/-- MAG[k] from the packed pair (ACC[2k], ACC[2k+1]): the two squares are rounded, then added (R250). -/
def magSquared (re im : F16) : F16 := add16 (mul16 re re) (mul16 im im)

/-- MAG[0..511] of the packed spectrum (R250). -/
def magnitudes : List F16 → List F16
  | re :: im :: acc => magSquared re im :: magnitudes acc
  | _ => []

/-- The scan of R251 from index i on: a bin replaces the best only when it is strictly greater. -/
def peakFrom (i best : Nat) (bestv : F16) : List F16 → Nat × F16
  | [] => (best, bestv)
  | v :: mag => if gt16 v bestv then peakFrom (i + 1) i v mag else peakFrom (i + 1) best bestv mag

/-- The peak search: the first maximum and its value (R251). -/
def peak : List F16 → Nat × F16
  | [] => (0, zero16)
  | v :: mag => peakFrom 1 0 v mag

/-- The frequency estimate, bin / (1024 * si): the product is rounded, then the quotient (R253). -/
def frequency (bin : Nat) (si : F16) : F16 := div16 (cvt16 bin) (mul16 n16 si)

end Sys2Proof.Machine
end

