-- ==== Sys2Proof/Machine/Rom.lean ====
section
/-! DEFINITION. The constant tables of the hardware: the window ROM HANN (44_window_rfft.md R210) and the twiddle ROM
COSQ (R213), with the two 512-entry tables derived from it. They are ROMs: no operation changes them (10_state.md R35,
R36). -/

namespace Sys2Proof.Machine

/-- HANN[0..249], the entries a pass reads, as R210 lists them. -/
def hannLow : List F16 :=
  [0x0000, 0x009E, 0x0278, 0x058D, 0x08EF, 0x0BB6, 0x0D8D, 0x0F8E, 0x10EF, 0x123E,
   0x13B5, 0x14AA, 0x158D, 0x1683, 0x178D, 0x1856, 0x18EE, 0x1991, 0x1A3D, 0x1AF3,
   0x1BB3, 0x1C3F, 0x1CA8, 0x1D17, 0x1D8B, 0x1E03, 0x1E80, 0x1F03, 0x1F8A, 0x200B,
   0x2053, 0x209E, 0x20EB, 0x213B, 0x218D, 0x21E1, 0x2238, 0x2292, 0x22ED, 0x234C,
   0x23AC, 0x2407, 0x243A, 0x246E, 0x24A3, 0x24D9, 0x2511, 0x2549, 0x2583, 0x25BE] ++
  [0x25FA, 0x2637, 0x2676, 0x26B6, 0x26F6, 0x2738, 0x277B, 0x27C0, 0x2803, 0x2826,
   0x284A, 0x286E, 0x2893, 0x28B9, 0x28DF, 0x2906, 0x292D, 0x2955, 0x297E, 0x29A7,
   0x29D0, 0x29FA, 0x2A25, 0x2A50, 0x2A7C, 0x2AA8, 0x2AD5, 0x2B03, 0x2B31, 0x2B5F,
   0x2B8F, 0x2BBE, 0x2BEE, 0x2C10, 0x2C28, 0x2C41, 0x2C5A, 0x2C74, 0x2C8D, 0x2CA7,
   0x2CC2, 0x2CDC, 0x2CF7, 0x2D12, 0x2D2D, 0x2D49, 0x2D65, 0x2D81, 0x2D9D, 0x2DBA] ++
  [0x2DD6, 0x2DF3, 0x2E11, 0x2E2E, 0x2E4C, 0x2E6A, 0x2E89, 0x2EA7, 0x2EC6, 0x2EE5,
   0x2F04, 0x2F24, 0x2F43, 0x2F64, 0x2F84, 0x2FA4, 0x2FC5, 0x2FE6, 0x3004, 0x3014,
   0x3025, 0x3036, 0x3047, 0x3058, 0x3069, 0x307B, 0x308C, 0x309E, 0x30B0, 0x30C2,
   0x30D3, 0x30E5, 0x30F8, 0x310A, 0x311C, 0x312F, 0x3141, 0x3154, 0x3167, 0x317A,
   0x318D, 0x31A0, 0x31B3, 0x31C6, 0x31DA, 0x31ED, 0x3201, 0x3214, 0x3228, 0x323C] ++
  [0x3250, 0x3264, 0x3278, 0x328C, 0x32A1, 0x32B5, 0x32C9, 0x32DE, 0x32F3, 0x3308,
   0x331C, 0x3331, 0x3346, 0x335B, 0x3371, 0x3386, 0x339B, 0x33B1, 0x33C6, 0x33DC,
   0x33F2, 0x3404, 0x340F, 0x3419, 0x3424, 0x3430, 0x343B, 0x3446, 0x3451, 0x345C,
   0x3467, 0x3472, 0x347E, 0x3489, 0x3494, 0x34A0, 0x34AB, 0x34B7, 0x34C2, 0x34CE,
   0x34D9, 0x34E5, 0x34F0, 0x34FC, 0x3508, 0x3513, 0x351F, 0x352B, 0x3536, 0x3542] ++
  [0x354E, 0x355A, 0x3566, 0x3572, 0x357E, 0x358A, 0x3595, 0x35A1, 0x35AD, 0x35BA,
   0x35C6, 0x35D2, 0x35DE, 0x35EA, 0x35F6, 0x3602, 0x360E, 0x361B, 0x3627, 0x3633,
   0x363F, 0x364C, 0x3658, 0x3664, 0x3670, 0x367D, 0x3689, 0x3695, 0x36A2, 0x36AE,
   0x36BB, 0x36C7, 0x36D3, 0x36E0, 0x36EC, 0x36F9, 0x3705, 0x3712, 0x371E, 0x372B,
   0x3737, 0x3744, 0x3750, 0x375D, 0x3769, 0x3776, 0x3782, 0x378F, 0x379C, 0x37A8]

/-- HANN[250..512]. R210 gives them by its formula and lists four of them: 0x37B5 at 250, 0x3800 at 256, 0x3C00 at 511
and 512. The others were computed from the formula outside Lean (DEDUCED, log 12). No rule reads them. -/
def hannHigh : List F16 :=
  [0x37B5, 0x37C1, 0x37CE, 0x37DA, 0x37E7, 0x37F3, 0x3800, 0x3806, 0x380D, 0x3813,
   0x3819, 0x381F, 0x3826, 0x382C, 0x3832, 0x3839, 0x383F, 0x3845, 0x384B, 0x3852,
   0x3858, 0x385E, 0x3864, 0x386B, 0x3871, 0x3877, 0x387D, 0x3884, 0x388A, 0x3890,
   0x3896, 0x389C, 0x38A3, 0x38A9, 0x38AF, 0x38B5, 0x38BB, 0x38C2, 0x38C8, 0x38CE,
   0x38D4, 0x38DA, 0x38E0, 0x38E6, 0x38ED, 0x38F3, 0x38F9, 0x38FF, 0x3905, 0x390B] ++
  [0x3911, 0x3917, 0x391D, 0x3923, 0x3929, 0x392F, 0x3935, 0x393B, 0x3941, 0x3947,
   0x394D, 0x3953, 0x3959, 0x395F, 0x3965, 0x396B, 0x3971, 0x3976, 0x397C, 0x3982,
   0x3988, 0x398E, 0x3993, 0x3999, 0x399F, 0x39A5, 0x39AA, 0x39B0, 0x39B6, 0x39BB,
   0x39C1, 0x39C7, 0x39CC, 0x39D2, 0x39D8, 0x39DD, 0x39E3, 0x39E8, 0x39EE, 0x39F3,
   0x39F9, 0x39FE, 0x3A04, 0x3A09, 0x3A0E, 0x3A14, 0x3A19, 0x3A1F, 0x3A24, 0x3A29] ++
  [0x3A2E, 0x3A34, 0x3A39, 0x3A3E, 0x3A43, 0x3A48, 0x3A4E, 0x3A53, 0x3A58, 0x3A5D,
   0x3A62, 0x3A67, 0x3A6C, 0x3A71, 0x3A76, 0x3A7B, 0x3A80, 0x3A85, 0x3A8A, 0x3A8E,
   0x3A93, 0x3A98, 0x3A9D, 0x3AA2, 0x3AA6, 0x3AAB, 0x3AB0, 0x3AB4, 0x3AB9, 0x3ABE,
   0x3AC2, 0x3AC7, 0x3ACB, 0x3AD0, 0x3AD4, 0x3AD9, 0x3ADD, 0x3AE1, 0x3AE6, 0x3AEA,
   0x3AEE, 0x3AF3, 0x3AF7, 0x3AFB, 0x3AFF, 0x3B03, 0x3B07, 0x3B0B, 0x3B10, 0x3B14] ++
  [0x3B18, 0x3B1C, 0x3B1F, 0x3B23, 0x3B27, 0x3B2B, 0x3B2F, 0x3B33, 0x3B36, 0x3B3A,
   0x3B3E, 0x3B42, 0x3B45, 0x3B49, 0x3B4C, 0x3B50, 0x3B53, 0x3B57, 0x3B5A, 0x3B5E,
   0x3B61, 0x3B64, 0x3B68, 0x3B6B, 0x3B6E, 0x3B72, 0x3B75, 0x3B78, 0x3B7B, 0x3B7E,
   0x3B81, 0x3B84, 0x3B87, 0x3B8A, 0x3B8D, 0x3B90, 0x3B93, 0x3B95, 0x3B98, 0x3B9B,
   0x3B9E, 0x3BA0, 0x3BA3, 0x3BA6, 0x3BA8, 0x3BAB, 0x3BAD, 0x3BB0, 0x3BB2, 0x3BB4] ++
  [0x3BB7, 0x3BB9, 0x3BBB, 0x3BBE, 0x3BC0, 0x3BC2, 0x3BC4, 0x3BC6, 0x3BC8, 0x3BCA,
   0x3BCC, 0x3BCE, 0x3BD0, 0x3BD2, 0x3BD4, 0x3BD6, 0x3BD7, 0x3BD9, 0x3BDB, 0x3BDD,
   0x3BDE, 0x3BE0, 0x3BE1, 0x3BE3, 0x3BE4, 0x3BE6, 0x3BE7, 0x3BE8, 0x3BEA, 0x3BEB,
   0x3BEC, 0x3BEE, 0x3BEF, 0x3BF0, 0x3BF1, 0x3BF2, 0x3BF3, 0x3BF4, 0x3BF5, 0x3BF6,
   0x3BF7, 0x3BF8, 0x3BF8, 0x3BF9, 0x3BFA, 0x3BFA, 0x3BFB, 0x3BFC, 0x3BFC, 0x3BFD] ++
  [0x3BFD, 0x3BFE, 0x3BFE, 0x3BFE, 0x3BFF, 0x3BFF, 0x3BFF, 0x3C00, 0x3C00, 0x3C00,
   0x3C00, 0x3C00, 0x3C00]

/-- The window ROM, with HANN[1024 - i] = HANN[i] (R210). An index above 1023 is outside the ROM and no rule reads it. -/
def hann (i : Nat) : F16 :=
  if i < 250 then hannLow.getD i zero16
  else if i ≤ 512 then hannHigh.getD (i - 250) zero16
  else if 1024 - i < 250 then hannLow.getD (1024 - i) zero16
  else hannHigh.getD (1024 - i - 250) zero16

/-- The quarter-wave cosine ROM, COSQ[0..256] (R213). -/
def cosqTable : List F16 :=
  [0x3C00, 0x3C00, 0x3C00, 0x3C00, 0x3BFF, 0x3BFF, 0x3BFF, 0x3BFE, 0x3BFE, 0x3BFD,
   0x3BFC, 0x3BFB, 0x3BFA, 0x3BF9, 0x3BF8, 0x3BF7, 0x3BF6, 0x3BF5, 0x3BF4, 0x3BF2,
   0x3BF1, 0x3BEF, 0x3BED, 0x3BEC, 0x3BEA, 0x3BE8, 0x3BE6, 0x3BE4, 0x3BE2, 0x3BE0,
   0x3BDD, 0x3BDB, 0x3BD9, 0x3BD6, 0x3BD4, 0x3BD1, 0x3BCE, 0x3BCB, 0x3BC9, 0x3BC6,
   0x3BC3, 0x3BC0, 0x3BBC, 0x3BB9, 0x3BB6, 0x3BB2, 0x3BAF, 0x3BAB, 0x3BA8, 0x3BA4] ++
  [0x3BA0, 0x3B9D, 0x3B99, 0x3B95, 0x3B91, 0x3B8C, 0x3B88, 0x3B84, 0x3B80, 0x3B7B,
   0x3B77, 0x3B72, 0x3B6E, 0x3B69, 0x3B64, 0x3B5F, 0x3B5A, 0x3B55, 0x3B50, 0x3B4B,
   0x3B46, 0x3B41, 0x3B3B, 0x3B36, 0x3B30, 0x3B2B, 0x3B25, 0x3B20, 0x3B1A, 0x3B14,
   0x3B0E, 0x3B08, 0x3B02, 0x3AFC, 0x3AF6, 0x3AF0, 0x3AE9, 0x3AE3, 0x3ADD, 0x3AD6,
   0x3AD0, 0x3AC9, 0x3AC2, 0x3ABC, 0x3AB5, 0x3AAE, 0x3AA7, 0x3AA0, 0x3A99, 0x3A92] ++
  [0x3A8A, 0x3A83, 0x3A7C, 0x3A74, 0x3A6D, 0x3A65, 0x3A5E, 0x3A56, 0x3A4F, 0x3A47,
   0x3A3F, 0x3A37, 0x3A2F, 0x3A27, 0x3A1F, 0x3A17, 0x3A0F, 0x3A07, 0x39FE, 0x39F6,
   0x39ED, 0x39E5, 0x39DC, 0x39D4, 0x39CB, 0x39C3, 0x39BA, 0x39B1, 0x39A8, 0x399F,
   0x3996, 0x398D, 0x3984, 0x397B, 0x3972, 0x3969, 0x395F, 0x3956, 0x394D, 0x3943,
   0x393A, 0x3930, 0x3927, 0x391D, 0x3913, 0x3909, 0x3900, 0x38F6, 0x38EC, 0x38E2] ++
  [0x38D8, 0x38CE, 0x38C4, 0x38BA, 0x38B0, 0x38A6, 0x389B, 0x3891, 0x3887, 0x387C,
   0x3872, 0x3867, 0x385D, 0x3852, 0x3848, 0x383D, 0x3832, 0x3828, 0x381D, 0x3812,
   0x3807, 0x37F9, 0x37E3, 0x37CD, 0x37B7, 0x37A1, 0x378B, 0x3775, 0x375E, 0x3748,
   0x3732, 0x371B, 0x3705, 0x36EE, 0x36D7, 0x36C1, 0x36AA, 0x3693, 0x367C, 0x3665,
   0x364E, 0x3637, 0x361F, 0x3608, 0x35F1, 0x35DA, 0x35C2, 0x35AB, 0x3593, 0x357C] ++
  [0x3564, 0x354C, 0x3534, 0x351D, 0x3505, 0x34ED, 0x34D5, 0x34BD, 0x34A5, 0x348D,
   0x3475, 0x345D, 0x3444, 0x342C, 0x3414, 0x33F7, 0x33C6, 0x3396, 0x3365, 0x3334,
   0x3303, 0x32D2, 0x32A1, 0x326F, 0x323E, 0x320D, 0x31DB, 0x31AA, 0x3179, 0x3147,
   0x3115, 0x30E4, 0x30B2, 0x3080, 0x304E, 0x301D, 0x2FD6, 0x2F72, 0x2F0E, 0x2EAA,
   0x2E46, 0x2DE2, 0x2D7E, 0x2D1A, 0x2CB5, 0x2C51, 0x2BD9, 0x2B11, 0x2A48, 0x297F] ++
  [0x28B6, 0x27DA, 0x2648, 0x24B6, 0x2248, 0x1E48, 0x0000]

/-- COSQ[k] (R213). -/
def cosq (k : Nat) : F16 := cosqTable.getD k zero16

/-- C1024[k], the cosine table derived from COSQ, k = 0..511 (R213). -/
def cos1024 (k : Nat) : F16 := if k ≤ 256 then cosq k else neg16 (cosq (512 - k))

/-- S1024[k] = COSQ[|256 - k|], the sine table derived from COSQ, k = 0..511 (R213). -/
def sin1024 (k : Nat) : F16 := if k ≤ 256 then cosq (256 - k) else cosq (k - 256)

end Sys2Proof.Machine
end

