-- ==== Sys2Proof/Machine/Transform.lean ====
section
/-! DEFINITION. The datapath of one channel: the Hann taper, the zero-fill and the reference transform REF
(44_window_rfft.md R211 to R219). The butterflies of one stage read their inputs before any output is written, so the
order of the loops over b and j does not matter (R216); here a stage takes its blocks one after the other (log 16). -/

namespace Sys2Proof.Machine

/-- A complex value (real, imaginary). -/
abbrev Complex16 := F16 × F16

/-- TD: the snapshot times HANN[0..249] element by element (R211), then +0 up to 1024 words (R212). -/
def taper (snapshot : List F16) : List F16 :=
  List.zipWith mul16 snapshot ((List.range 250).map hann) ++ List.replicate 774 zero16

/-- The real input viewed as complex values (x[2n], x[2n+1]) (R214). -/
def packPairs : List F16 → List Complex16
  | re :: im :: x => (re, im) :: packPairs x
  | _ => []

/-- The reversal of the 9 bits of n (R215). -/
def rev9 (n : Nat) : Nat := (List.range 9).foldl (fun r i => 2 * r + n / 2 ^ i % 2) 0

/-- a[rev9(n)] <- z[n] for every n (R215). Since rev9 is its own inverse, a[n] is z[rev9(n)]. -/
def bitReverse (z : List Complex16) : List Complex16 := (List.range 512).map fun n => z.getD (rev9 n) (zero16, zero16)

/-- q times the twiddle (c, -sn), each of the four products rounded (R216). -/
def twiddle (tw q : Complex16) : Complex16 :=
  (add16 (mul16 tw.1 q.1) (mul16 tw.2 q.2), sub16 (mul16 tw.1 q.2) (mul16 tw.2 q.1))

/-- The upper output of a butterfly, (pr + tr, pi + ti) (R216). -/
def butterflyAdd (p t : Complex16) : Complex16 := (add16 p.1 t.1, add16 p.2 t.2)

/-- The lower output of a butterfly, (pr - tr, pi - ti) (R216). -/
def butterflySub (p t : Complex16) : Complex16 := (sub16 p.1 t.1, sub16 p.2 t.2)

/-- The butterflies of one block: `ps` is a[b..b+h-1], `qs` is a[b+h..b+m-1], `tws` the twiddles for j = 0..h-1. -/
def blockButterflies (tws ps qs : List Complex16) : List Complex16 :=
  List.zipWith butterflyAdd ps (List.zipWith twiddle tws qs) ++
    List.zipWith butterflySub ps (List.zipWith twiddle tws qs)

/-- The blocks of one stage in ascending order, each of m = 2h values (R216). -/
def stageBlocks (h : Nat) (tws : List Complex16) : Nat → List Complex16 → List Complex16
  | 0, _ => []
  | blocks + 1, a =>
    blockButterflies tws (a.take h) ((a.drop h).take h) ++ stageBlocks h tws blocks (a.drop (2 * h))

/-- The twiddles (C1024[2*j*st], S1024[2*j*st]) of a stage, j = 0..h-1 (R213, R216). -/
def stageTwiddles (h st : Nat) : List Complex16 :=
  (List.range h).map fun j => (cos1024 (2 * j * st), sin1024 (2 * j * st))

/-- Stage s, with m = 2^s, h = m / 2 and st = 512 / m (R216). -/
def stage (s : Nat) (a : List Complex16) : List Complex16 :=
  stageBlocks (2 ^ s / 2) (stageTwiddles (2 ^ s / 2) (512 / 2 ^ s)) (512 / 2 ^ s) a

/-- The nine stages in order, giving Z[0..511] (R216). -/
def stages (a : List Complex16) : List Complex16 := (List.range' 1 9).foldl (fun t s => stage s t) a

/-- The split of bin 0: X[0] and X[512] are real (R217). -/
def splitZero (z0 : Complex16) : List F16 := [add16 z0.1 z0.2, sub16 z0.1 z0.2]

/-- The split of bin k from A = Z[k] and U = Z[512 - k], with c = C1024[k] and sn = S1024[k] (R218). -/
def splitBin (tw a u : Complex16) : List F16 :=
  let er := mul16 (add16 a.1 u.1) half16
  let ei := mul16 (sub16 a.2 u.2) half16
  let or := mul16 (add16 a.2 u.2) half16
  let oi := neg16 (mul16 (sub16 a.1 u.1) half16)
  [add16 er (add16 (mul16 tw.1 or) (mul16 tw.2 oi)), add16 ei (sub16 (mul16 tw.1 oi) (mul16 tw.2 or))]

/-- The split step: the packed spectrum, bin 0 then bins 1..511 (R217 to R219). -/
def split (z : List Complex16) : List F16 :=
  splitZero (z.getD 0 (zero16, zero16)) ++
    (List.range' 1 511).flatMap fun k =>
      splitBin (cos1024 k, sin1024 k) (z.getD k (zero16, zero16)) (z.getD (512 - k) (zero16, zero16))

/-- REF: the packed spectrum SPEC[0..1023] of TD[0..1023] (R214 to R218). For an infinite sample these rules do not always
give what the derived R223 (c) and 70_reset_and_hazards.md R303 say: the model follows R214 to R218 (DEDUCED, log 13). -/
def refTransform (td : List F16) : List F16 := split (stages (bitReverse (packPairs td)))

end Sys2Proof.Machine
end

