-- ==== Sys2Proof/Machine/Pass.lean ====
section
/-! DEFINITION. The computation pass over the working memories: the spectral sum over the channels (44_window_rfft.md
R220 to R222), the detection and the commit (45_detect.md R253, R254). -/

namespace Sys2Proof.Machine

/-- for j in 0..1023: ACC[j] <- +0 (R220). -/
def zeroAcc (s : State) : State := s.setScratch { s.scratch with acc := List.replicate 1024 zero16 }

/-- TD <- the tapered and zero-filled snapshot of channel c (R211, R212, R221). -/
def loadTd (c : Channel) (s : State) : State := s.setScratch { s.scratch with td := taper (rbSnapshot c s) }

/-- SPEC <- REF(TD) (R221). -/
def transformTd (s : State) : State := s.setScratch { s.scratch with spec := refTransform s.scratch.td }

/-- for j in 0..1023: ACC[j] <- add16(ACC[j], SPEC[j]) (R221). -/
def addSpec (s : State) : State :=
  s.setScratch { s.scratch with acc := List.zipWith add16 s.scratch.acc s.scratch.spec }

/-- One channel's contribution (R221). -/
def channelSpectrum (c : Channel) (s : State) : State := addSpec (transformTd (loadTd c s))

/-- spectral_sum(nc): the active channels in ascending order (R222). -/
def spectralSum (nc : Word) (s : State) : State :=
  (activeChannels nc).foldl (fun t c => channelSpectrum c t) (zeroAcc s)

/-- MAG <- the magnitude-squared of ACC (R250). -/
def loadMag (s : State) : State := s.setScratch { s.scratch with mag := magnitudes s.scratch.acc }

/-- The peak search over MAG, the frequency conversion with the frame's interval, and the commit of the three result
registers (R251, R253, R254). -/
def commitPeak (si : F16) (s : State) : State :=
  s.setResult (frequency (peak s.scratch.mag).1 si) (BitVec.ofNat 9 (peak s.scratch.mag).1) (peak s.scratch.mag).2

/-- The pass, steps 5 to 9, for the frame's channel count and interval (42_commands.md R170, R171). -/
def computationPass (nc : Word) (si : F16) (s : State) : State := commitPeak si (loadMag (spectralSum nc s))

end Sys2Proof.Machine
end

