-- ==== Sys2Proof/Machine/Command.lean ====
section
/-! DEFINITION. The commands NOP, INIT and STEP and the write to CMD that starts them (42_commands.md section 2). A
command is one atomic step (70_reset_and_hazards.md R305): it begins and ends in IDLE, and the CMD write completes with
an OK response (60_exceptions.md R271). -/

namespace Sys2Proof.Machine

/-- The effect of INIT on the registers (R169, 70_reset_and_hazards.md R293). -/
def initEffect (s : State) : State :=
  ((rbResetAll (s.setElapsed zero16)).setResult zero16 0#9 zero16).accept false

/-- Steps 3 to 10 of STEP after ELAPSED has advanced: the closed gate ends the command, the open gate runs the pass
(R170, R172, R174). -/
def gateEffect (nc : Word) (si : F16) (s : State) : State :=
  if gateClosed s then s.accept false
  else (computationPass nc si (subtractInterval s)).accept true

/-- An accepted STEP of the frame (nc, si), steps 1 to 10 (R170). -/
def stepAccepted (nc : Word) (si : F16) (s : State) : State :=
  gateEffect nc si (accumulateElapsed si (ingest nc s))

/-- The effect of STEP on the registers; the frame is read once, at the start (R170, R171). -/
def stepEffect (s : State) : State :=
  match stepError s.numChannels s.sampleInterval with
  | some code => s.reject code
  | none => stepAccepted s.numChannels s.sampleInterval s

/-- Runs a command in the control state COMPUTE and returns to IDLE (10_state.md R38). -/
def inCompute (effect : State → State) (s : State) : State := (effect (s.setControl .compute)).setControl .idle

/-- NOP: nothing changes, and the write gets OK (R168). -/
def execNop (s : State) : Host.Outcome State Fault Refusal := .next (s.respond .ok)

/-- INIT (R169). -/
def execInit (s : State) : Host.Outcome State Fault Refusal := .next ((inCompute initEffect s).respond .ok)

/-- STEP (R170). -/
def execStep (s : State) : Host.Outcome State Fault Refusal := .next ((inCompute stepEffect s).respond .ok)

/-- BAD_CMD: reject(1), with an OK response (R175). -/
def badCommand (s : State) : Host.Outcome State Fault Refusal := .next ((s.reject errBadCmd).respond .ok)

/-- command(W), the write of any word W to CMD: an exact match selects a command, every other word is BAD_CMD (R167). -/
def execWrCmd (w : Word) (s : State) : Host.Outcome State Fault Refusal :=
  if w = 0x00000000#32 then .next (s.respond .ok)
  else if w = 0x00000001#32 then .next ((inCompute initEffect s).respond .ok)
  else if w = 0x00000002#32 then .next ((inCompute stepEffect s).respond .ok)
  else badCommand s

end Sys2Proof.Machine
end

