-- ==== Sys2Proof/Machine/Bus.lean ====
section
/-! DEFINITION. The bus side of the block: where an access comes from (routing by BASE_ADDR, bursts), what becomes of an
access the decoder refuses, hardware reset, the time a command holds the bus, and the notation of host programs
(20_memory.md, 30_encoding.md R96, 70_reset_and_hazards.md). -/

namespace Sys2Proof.Machine

/-! ### Routing and bursts -/

/-- The platform address of an aperture offset (00_scope.md R11, 20_memory.md R60). -/
def busAddress (off : Offset) : Nat := Config.baseAddr + off.toNat

/-- The offset of a platform address inside the aperture. An address outside does not reach the block: `none`
(60_exceptions.md R272). -/
def routeAddress (addr : Nat) : Option Offset :=
  if Config.baseAddr ≤ addr ∧ addr < Config.baseAddr + 0x8000 then some (BitVec.ofNat 15 (addr - Config.baseAddr))
  else none

/-- What the platform presents for one access at a platform address: the access, or nothing outside the aperture. -/
def routed (dir : Direction) (size addr : Nat) (data : Word) : List Input :=
  match routeAddress addr with
  | some off => [.access { dir := dir, size := size, off := off, data := data }]
  | none => []

/-- A burst: single 32-bit accesses at increasing offsets, one per beat (20_memory.md R64). A beat past the aperture
does not reach the block (R272; log 8). The list holds a word per beat, 0 for a read. -/
def burst (dir : Direction) : Nat → List Word → List Input
  | _, [] => []
  | off, w :: ws =>
    if off < 0x8000 then .access { dir := dir, size := 4, off := BitVec.ofNat 15 off, data := w } :: burst dir (off + 4) ws
    else []

/-- The platform presents inputs after those already waiting: the block services accesses in the order it receives them
(20_memory.md R70). Whatever masters they come from, this is the order the interconnect chose (R72). -/
def State.present (s : State) (inputs : List Input) : State := s.setPending (s.pending ++ inputs)

/-! ### Refused accesses and reset -/

/-- An access the decoder refuses is answered BUS_ERROR with no effect (20_memory.md R63, 60_exceptions.md R272 (a)). -/
def answerUndecoded (e : DecodeError) (s : State) : Host.Outcome State Fault Refusal :=
  match e with
  | .notWholeWord => .next s.raiseBusError

/-- Hardware reset: every register at its reset value, in IDLE (70_reset_and_hazards.md R290, R291). The inputs still
to come and the responses already received are the host's and stay (log 5). -/
def resetBlock (s : State) : State := { State.reset with pending := s.pending, responses := s.responses }

/-! ### Time -/

/-- A STEP in this state runs a computation pass (42_commands.md R170, R174). -/
def passRuns (s : State) : Bool :=
  (stepError s.numChannels s.sampleInterval).isNone &&
    !lt16 (add16 s.elapsed s.sampleInterval) one16

/-- How long a command holds the bus: an open parameter on which no rule depends (00_scope.md R11,
70_reset_and_hazards.md R305; log 14). For every other access the spec names no time. -/
def busHold (i : Instr) (s : State) : Option Nat :=
  match i with
  | .init => some Config.initLatency
  | .step => some (Config.stepLatency s.numChannels (passRuns s))
  | .nop | .wrCmd _ | .wrNumChannels _ | .wrSampleInterval _ | .wrChSample _ _ | .wrRoOrReserved _ _ => none
  | .rdId | .rdConfig | .rdCmd | .rdStatus | .rdNumChannels | .rdSampleInterval | .rdFreqOut | .rdPeakBin => none
  | .rdPeakMag2 | .rdElapsed | .rdChSample _ | .rdRbCursor _ | .rdRbSnap _ _ | .rdReserved _ => none

/-! ### Host-program notation (30_encoding.md R96) -/

/-- `NOP` -/
def hostNop : List Access := [.wr 0x0008#15 0x00000000#32]
/-- `INIT` -/
def hostInit : List Access := [.wr 0x0008#15 0x00000001#32]
/-- `STEP` -/
def hostStep : List Access := [.wr 0x0008#15 0x00000002#32]
/-- `SETNC n` -/
def hostSetNc (n : Word) : List Access := [.wr 0x0010#15 n]
/-- `SETSI h` -/
def hostSetSi (h : F16) : List Access := [.wr 0x0014#15 (h.setWidth 32)]
/-- `SETCH c, h` -/
def hostSetCh (c : Channel) (h : F16) : List Access := [.wr (BitVec.ofNat 15 (0x0080 + 4 * c.val)) (h.setWidth 32)]
/-- `RDSTAT` -/
def hostRdStat : List Access := [.rd 0x000C#15]
/-- `RDFREQ` -/
def hostRdFreq : List Access := [.rd 0x0018#15]
/-- `RDSNAP c, j` -/
def hostRdSnap (c : Channel) (j : Slot) : List Access := [.rd (BitVec.ofNat 15 (0x1000 + 0x400 * c.val + 4 * j.val))]
/-- `REPEAT k { body }`: a host-side loop. -/
def hostRepeat (k : Nat) (body : List Access) : List Access := (List.replicate k body).flatten

/-- A host program as the inputs it presents. -/
def hostProgram (p : List Access) : List Input := p.map .access

end Sys2Proof.Machine
end

