-- ==== Sys2Proof/Machine/ReadAccess.lean ====
section
/-! DEFINITION. The register reads (42_commands.md R161, R166). A read answers the word the state holds and changes no
register (20_memory.md R69). -/

namespace Sys2Proof.Machine

/-- The host receives the word of a register. -/
def State.answer (s : State) (r : Register) : State := s.respond (.data (readRegister r s))

/-- RD.ID: the constant 0x53504543 (30_encoding.md R82). -/
def execRdId (s : State) : Host.Outcome State Fault Refusal := .next (s.answer .id)

/-- RD.CONFIG: the constant 0x0400FA14 (30_encoding.md R83). -/
def execRdConfig (s : State) : Host.Outcome State Fault Refusal := .next (s.answer .config)

/-- RD.CMD: always 0 (30_encoding.md R84). -/
def execRdCmd (s : State) : Host.Outcome State Fault Refusal := .next (s.answer .cmd)

/-- RD.STATUS: READY and ERRCODE (30_encoding.md R87). -/
def execRdStatus (s : State) : Host.Outcome State Fault Refusal := .next (s.answer .status)

/-- RD.NUM_CHANNELS: all 32 bits (30_encoding.md R88). -/
def execRdNumChannels (s : State) : Host.Outcome State Fault Refusal := .next (s.answer .numChannels)

/-- RD.SAMPLE_INTERVAL: the stored binary16 value (30_encoding.md R89). -/
def execRdSampleInterval (s : State) : Host.Outcome State Fault Refusal := .next (s.answer .sampleInterval)

/-- RD.FREQ_OUT: the last estimate, whether or not READY is 1 (R166). -/
def execRdFreqOut (s : State) : Host.Outcome State Fault Refusal := .next (s.answer .freqOut)

/-- RD.PEAK_BIN: the last peak bin (30_encoding.md R90). -/
def execRdPeakBin (s : State) : Host.Outcome State Fault Refusal := .next (s.answer .peakBin)

/-- RD.PEAK_MAG2: the last peak magnitude-squared (R166). -/
def execRdPeakMag2 (s : State) : Host.Outcome State Fault Refusal := .next (s.answer .peakMag2)

/-- RD.ELAPSED: the elapsed-time accumulator (30_encoding.md R89). -/
def execRdElapsed (s : State) : Host.Outcome State Fault Refusal := .next (s.answer .elapsed)

/-- RD.CH_SAMPLE: the staged sample of channel c (R162). -/
def execRdChSample (c : Channel) (s : State) : Host.Outcome State Fault Refusal := .next (s.answer (.chSample c))

/-- RD.RB_CURSOR: CUR[c] (30_encoding.md R91). -/
def execRdRbCursor (c : Channel) (s : State) : Host.Outcome State Fault Refusal := .next (s.answer (.rbCursor c))

/-- RD.RB_SNAP: element j of the snapshot of channel c (30_encoding.md R92, 41_ring_buffer.md R142). -/
def execRdRbSnap (c : Channel) (j : Slot) (s : State) : Host.Outcome State Fault Refusal := .next (s.answer (.rbSnap c j))

/-- RD.RESERVED: BUS_ERROR and no data (30_encoding.md R93, 60_exceptions.md R272, R273). -/
def execRdReserved (_off : Offset) (s : State) : Host.Outcome State Fault Refusal := .next s.raiseBusError

end Sys2Proof.Machine
end

