-- ==== Sys2Proof/Machine/WriteAccess.lean ====
section
/-! DEFINITION. The writes to the staging registers and the writes that get BUS_ERROR (42_commands.md R160, R162 to
R165). -/

namespace Sys2Proof.Machine

/-- WR.NUM_CHANNELS: the whole word is stored; the value is checked only by STEP (R163). -/
def execWrNumChannels (w : Word) (s : State) : Host.Outcome State Fault Refusal :=
  .next ((s.setNumChannels w).respond .ok)

/-- WR.SAMPLE_INTERVAL: W[15:0] is stored; the value is checked only by STEP (R164). -/
def execWrSampleInterval (w : Word) (s : State) : Host.Outcome State Fault Refusal :=
  .next ((s.setSampleInterval (f16OfWord w)).respond .ok)

/-- WR.CH_SAMPLE: W[15:0] is stored exactly as written, and nothing is pushed (R162). -/
def execWrChSample (c : Channel) (w : Word) (s : State) : Host.Outcome State Fault Refusal :=
  .next ((s.setChSample c (f16OfWord w)).respond .ok)

/-- WR.RO_OR_RESERVED: BUS_ERROR, whatever the offset and the word (R165, 60_exceptions.md R272, R273). -/
def execWrRoOrReserved (_off : Offset) (_w : Word) (s : State) : Host.Outcome State Fault Refusal :=
  .next s.raiseBusError

end Sys2Proof.Machine
end

