-- ==== Sys2Proof/Machine/Dispatch.lean ====
section
/-! DEFINITION. The dispatch from an instruction to its meaning, one arm per constructor of `Instr`. -/

namespace Sys2Proof.Machine

def exec (i : Instr) (s : State) : Host.Outcome State Fault Refusal :=
  match i with
  | .nop => Sys2Proof.Machine.execNop s
  | .init => Sys2Proof.Machine.execInit s
  | .step => Sys2Proof.Machine.execStep s
  | .wrCmd w => Sys2Proof.Machine.execWrCmd w s
  | .wrNumChannels w => Sys2Proof.Machine.execWrNumChannels w s
  | .wrSampleInterval w => Sys2Proof.Machine.execWrSampleInterval w s
  | .wrChSample c w => Sys2Proof.Machine.execWrChSample c w s
  | .wrRoOrReserved off w => Sys2Proof.Machine.execWrRoOrReserved off w s
  | .rdId => Sys2Proof.Machine.execRdId s
  | .rdConfig => Sys2Proof.Machine.execRdConfig s
  | .rdCmd => Sys2Proof.Machine.execRdCmd s
  | .rdStatus => Sys2Proof.Machine.execRdStatus s
  | .rdNumChannels => Sys2Proof.Machine.execRdNumChannels s
  | .rdSampleInterval => Sys2Proof.Machine.execRdSampleInterval s
  | .rdFreqOut => Sys2Proof.Machine.execRdFreqOut s
  | .rdPeakBin => Sys2Proof.Machine.execRdPeakBin s
  | .rdPeakMag2 => Sys2Proof.Machine.execRdPeakMag2 s
  | .rdElapsed => Sys2Proof.Machine.execRdElapsed s
  | .rdChSample c => Sys2Proof.Machine.execRdChSample c s
  | .rdRbCursor c => Sys2Proof.Machine.execRdRbCursor c s
  | .rdRbSnap c j => Sys2Proof.Machine.execRdRbSnap c j s
  | .rdReserved off => Sys2Proof.Machine.execRdReserved off s

end Sys2Proof.Machine
end

