-- ==== Sys2Proof/Machine/Step.lean ====
section
/-! DEFINITION. One step: the block services the oldest input presented to it. -/

namespace Sys2Proof.Machine

/-- The state in which the next input is the access a word of opcode_table.json stands for (log 1, log 2). -/
def State.withFetchWord (s : State) (nbits w : Nat) : State :=
  match tableAccess nbits w with
  | some a => s.setPending (.access a :: s.pending)
  | none => s

/-- One step. With no input waiting the block does nothing (00_scope.md R12). A reset is taken in any state
(70_reset_and_hazards.md R290). An access is serviced in IDLE; while a command holds the bus no other access is
serviced (20_memory.md R68), a state no run reaches, because a command is one step (log 4). -/
def step (s : State) : Host.Outcome State Fault Refusal :=
  match s.pending with
  | [] => .next s
  | .reset :: rest => .next (resetBlock (s.setPending rest))
  | .access a :: rest =>
    match s.control with
    | .compute => .next s
    | .idle =>
      match decode a with
      | .ok i => exec i (s.setPending rest)
      | .error e => answerUndecoded e (s.setPending rest)

end Sys2Proof.Machine
end

