-- ==== Sys2Proof/Safety.lean ====
section
/-! DEFINITION. What a run of the block keeps (`Machine.State.wf`) and what a host can learn from it
(`Machine.observe`). -/

namespace Sys2Proof.Machine

/-- A binary16 value that is at least +0 and no NaN: the sign bit is 0 and the class is not NaN. -/
def nonNegative16 (x : F16) : Bool := !sign16 x && !isNaN16 x

/-- The working memories have the sizes of 10_state.md R37. -/
def Scratch.wf (w : Scratch) : Bool :=
  w.acc.length == 1024 && w.td.length == 1024 && w.spec.length == 1024 && w.mag.length == 512

/-- The invariant of the machine: IDLE between accesses (10_state.md R38), an error code that is written (R25), ELAPSED
never NaN and never negative (43_cadence.md R191), the frequency never NaN and never negative (45_detect.md R253), the
peak magnitude-squared never negative and never -0 (R250), the ring memory in its canonical form, the working memories
of their sizes (10_state.md R37). -/
def State.wf (s : State) : Bool :=
  s.control == .idle && decide (s.errcode.toNat ≤ 3) && nonNegative16 s.elapsed && nonNegative16 s.freqOut &&
    !sign16 s.peakMag2 && Memory.wf s.rb && Scratch.wf s.scratch

/-- The block services the inputs one after the other from s; the answer is every response the host received
(00_scope.md R13). -/
def observe (s : State) : List Input → List Response
  | [] => s.responses
  | x :: xs =>
    match step (s.setPending [x]) with
    | .next t => observe t xs
    | .fault _ | .refused _ => s.responses

/-- A run is safe for the host when no access got BUS_ERROR. -/
def noBusError (rs : List Response) : Bool := rs.all fun r => r != .busError

/-- Two states equal but for the working memories (10_state.md R37). -/
def sameButScratch (s t : State) : Prop := s.setScratch t.scratch = t

/-! ### The terms statements use -/

/-- An aligned offset that is reserved: the ranges of 30_encoding.md R93. -/
def reservedOffset (off : Offset) : Bool :=
  off.toNat % 4 == 0 &&
  ((0x0028 ≤ off.toNat && off.toNat ≤ 0x007C) ||
   (0x00D0 ≤ off.toNat && off.toNat ≤ 0x00FC) ||
   (0x0150 ≤ off.toNat && off.toNat ≤ 0x0FFC) ||
   (0x1000 ≤ off.toNat && off.toNat < 0x6000 && 0x3E8 ≤ off.toNat % 0x400) ||
   (0x6000 ≤ off.toNat && off.toNat ≤ 0x7FFC))

/-- The read-only registers (42_commands.md R165, 60_exceptions.md R272 (d)). -/
def readOnlyRegister : Register → Bool
  | .id | .config | .status | .freqOut | .peakBin | .peakMag2 | .elapsed | .rbCursor _ | .rbSnap _ _ => true
  | .cmd | .numChannels | .sampleInterval | .chSample _ => false

/-- A value in units of 2^-24 on the line -infinity < every finite value < +infinity, for a pattern that is no NaN:
every finite magnitude is below 2^41 units (40_fp16.md R109). -/
def order24 (x : F16) : Int :=
  if isInf16 x then (if sign16 x then -(2 ^ 41) else 2 ^ 41) else val24 x

/-- The frame of a STEP is accepted: at most 20 channels and an interval above +0 (42_commands.md R170). -/
def frameAccepted (s : State) : Bool := decide (s.numChannels.toNat ≤ 20) && gt16 s.sampleInterval zero16

/-- The cadence gate opens when ELAPSED plus the interval is not below 1.0 (43_cadence.md R190, R191). -/
def gateOpens (s : State) : Bool := !lt16 (add16 s.elapsed s.sampleInterval) one16

/-- The packed spectrum of one channel's stored samples, as a function of the rings alone (44_window_rfft.md R221). -/
def spectrumOf (c : Channel) (s : State) : List F16 := refTransform (taper (rbSnapshot c s))

/-- The sum of the active channels' spectra in ascending order from +0, as a function of the rings alone (R222). -/
def spectralSumOf (nc : Word) (s : State) : List F16 :=
  (activeChannels nc).foldl (fun acc c => List.zipWith add16 acc (spectrumOf c s)) (List.replicate 1024 zero16)

/-- n STEP commands one after the other, with no other access between them (43_cadence.md R194). -/
def stepCommands : Nat → State → Host.Outcome State Fault Refusal
  | 0, s => .next s
  | n + 1, s =>
    match exec .step s with
    | .next t => stepCommands n t
    | .fault e => .fault e
    | .refused r => .refused r

/-- Pushes the values in order to the ring of channel c (41_ring_buffer.md R141, R143). -/
def pushAll (c : Channel) (vs : List F16) (s : State) : State := vs.foldl (fun t v => rbPush c v t) s

end Sys2Proof.Machine
end

