-- ==== Sys2Proof/Certificates/Slice0/Obligations.lean ====
section
/-! DEFINITION. The statements about SPECEST, from the numbered rules of spec/. Each docstring names the rule it
formalises. A next state is written as the old state with the fields that change, so a statement gives an instruction's
result, its completion and its frame at once. -/

open Sys2Proof Sys2Proof.Machine

/-! ### Encoding -/

/-- Decoding the encoding of a well-formed instruction gives it back, whatever its operands (30_encoding.md R80, R85,
R92, R96). -/
def Obligations.DecodeOfEncodeIsIdentity : Prop :=
  ∀ i : Instr, i.wellFormed = true → decode (encode i) = .ok i

/-- Every whole-word access decodes to one well-formed instruction, whose encoding is that access (R81). -/
def Obligations.EncodeOfDecodeIsIdentity : Prop :=
  ∀ (a : Access) (i : Instr), decode a = .ok i →
    i.wellFormed = true ∧ (encode i).dir = a.dir ∧ (encode i).size = a.size ∧ (encode i).off = a.off ∧
      (a.dir = .write → (encode i).data = a.data)

/-- R80, R81, R92, R93: every register is at its own offset, no offset is that of two registers, and an offset is that
of no register exactly when it is unaligned or reserved. -/
def Obligations.RegisterMapMatchesEachOffsetOnce : Prop :=
  (∀ r : Register, registerAt r.offset = some r) ∧
  (∀ (off : Offset) (r : Register), registerAt off = some r → r.offset = off) ∧
  (∀ off : Offset, registerAt off = none ↔ off.toNat % 4 ≠ 0 ∨ reservedOffset off = true)

/-- Words written out from R80, R85 and R92 decode to the access they stand for. -/
def Obligations.WrittenOutAccessesDecode : Prop :=
  decode ⟨.write, 4, 0x0008#15, 0x00000002#32⟩ = .ok .step ∧
  decode ⟨.write, 4, 0x0008#15, 0x00000012#32⟩ = .ok (.wrCmd 0x00000012#32) ∧
  decode ⟨.write, 4, 0x0084#15, 0xFFFF3C00#32⟩ = .ok (.wrChSample 1 0xFFFF3C00#32) ∧
  decode ⟨.read, 4, 0x13BC#15, 0#32⟩ = .ok (.rdRbSnap 0 239) ∧
  decode ⟨.read, 4, 0x014C#15, 0#32⟩ = .ok (.rdRbCursor 19) ∧
  decode ⟨.read, 4, 0x13E8#15, 0#32⟩ = .ok (.rdReserved 0x13E8#15) ∧
  decode ⟨.write, 4, 0x1000#15, 0#32⟩ = .ok (.wrRoOrReserved 0x1000#15 0#32) ∧
  decode ⟨.read, 2, 0x0000#15, 0#32⟩ = .error .notWholeWord

/-- R96: the pseudo-instructions stand for the accesses of the instructions they name. -/
def Obligations.PseudoInstructionsDecode : Prop :=
  hostNop.map decode = [.ok .nop] ∧ hostInit.map decode = [.ok .init] ∧ hostStep.map decode = [.ok .step] ∧
  hostRdStat.map decode = [.ok .rdStatus] ∧ hostRdFreq.map decode = [.ok .rdFreqOut] ∧
  (∀ n : Word, (hostSetNc n).map decode = [.ok (.wrNumChannels n)]) ∧
  (∀ h : F16, (hostSetSi h).map decode = [.ok (.wrSampleInterval (h.setWidth 32))]) ∧
  (∀ (c : Channel) (h : F16), (hostSetCh c h).map decode = [.ok (.wrChSample c (h.setWidth 32))]) ∧
  (∀ (c : Channel) (j : Slot), (hostRdSnap c j).map decode = [.ok (.rdRbSnap c j)])

/-! ### Steps -/

/-- A step with an access waiting in IDLE runs the decoded instruction, with the access taken from the queue
(20_memory.md R70, 30_encoding.md R81). -/
def Obligations.StepRunsDecodedInstruction : Prop :=
  ∀ (s : State) (a : Access) (rest : List Input) (i : Instr),
    s.pending = .access a :: rest → s.control = .idle → decode a = .ok i →
      step s = exec i { s with pending := rest }

/-- R290: a reset, in any control state, puts every register at its reset value and the block in IDLE. That the inputs
still to come and the responses already given stay is the model's choice (log 5); what the working memories hold is
not stated (log 6). -/
def Obligations.ResetInputGivesResetState : Prop :=
  ∀ (s : State) (rest : List Input), s.pending = .reset :: rest →
    ∃ t, step s = .next t ∧
      t = { State.reset with scratch := t.scratch, pending := rest, responses := s.responses }

/-- R63: an access that is not one whole 32-bit access, or whose offset is not a multiple of 4, gets BUS_ERROR and has
no effect on any state. -/
def Obligations.UnsupportedAccessGetsBusError : Prop :=
  ∀ (s : State) (a : Access) (rest : List Input),
    s.pending = .access a :: rest → s.control = .idle → a.size ≠ 4 ∨ a.off.extractLsb' 0 2 ≠ 0#2 →
      step s = .next { s with pending := rest, responses := s.responses ++ [.busError] }

/-- R272, R273: a serviced access gets BUS_ERROR exactly under one of the four conditions, and then nothing else
changes. A read is otherwise answered with data and a write with OK. An access outside the aperture does not reach
the block. -/
def Obligations.BusErrorExactlyWhenStated : Prop :=
  (∀ (s : State) (a : Access) (rest : List Input), s.pending = .access a :: rest → s.control = .idle →
    ∃ t r, step s = .next t ∧ t.pending = rest ∧ t.responses = s.responses ++ [r] ∧
      (r = .busError ↔ a.size ≠ 4 ∨ a.off.toNat % 4 ≠ 0 ∨ reservedOffset a.off = true ∨
        (a.dir = .write ∧ ∃ reg, readOnlyRegister reg = true ∧ reg.offset = a.off)) ∧
      (r = .busError → t = { s with pending := rest, responses := s.responses ++ [.busError] }) ∧
      (a.dir = .read → r = .busError ∨ ∃ w, r = .data w) ∧
      (a.dir = .write → r = .busError ∨ r = .ok)) ∧
  (∀ (dir : Direction) (size addr : Nat) (data : Word),
    ¬ (Config.baseAddr ≤ addr ∧ addr < Config.baseAddr + 0x8000) → routed dir size addr data = [])

/-- 60_exceptions.md R277, 70_reset_and_hazards.md R306: no input stops the machine; every step answers a next state.
With nothing presented to the block that state is the same one (00_scope.md R12; that the idle block still takes a step
is the model's choice, log 15). -/
def Obligations.EveryStepAnswersANextState : Prop :=
  (∀ s : State, ∃ t, step s = .next t) ∧ ∀ s : State, s.pending = [] → step s = .next s

/-! ### Reads -/

/-- R33, R34: ID and CONFIG read as their constants in every state. -/
def Obligations.IdentityReadsReturnConstants : Prop :=
  ∀ s : State,
    exec .rdId s = .next { s with responses := s.responses ++ [.data 0x53504543#32] } ∧
    exec .rdConfig s = .next { s with responses := s.responses ++ [.data 0x0400FA14#32] } ∧
    (0x0400FA14#32).extractLsb' 0 8 = BitVec.ofNat 8 maxChannels ∧
    (0x0400FA14#32).extractLsb' 8 8 = BitVec.ofNat 8 ringCapacity ∧
    (0x0400FA14#32).extractLsb' 16 16 = BitVec.ofNat 16 transformSize

/-- R84: CMD reads as 0 with no effect, and a command word with a 1 in bits 31..4 is a reserved encoding. -/
def Obligations.CmdReadsZeroAndMbzIsReserved : Prop :=
  (∀ s : State, exec .rdCmd s = .next { s with responses := s.responses ++ [.data 0x00000000#32] }) ∧
  (∀ w : Word, w.extractLsb' 4 28 ≠ 0#28 → decode (.wr 0x0008#15 w) = .ok (.wrCmd w) ∧ (Instr.wrCmd w).wellFormed = true)

/-- R87: the STATUS word is ERRCODE ++ 0000000 ++ READY, zero-extended; STATUS is read-only and resets to 0. -/
def Obligations.StatusReadsReadyAndErrcode : Prop :=
  ∀ s : State,
    exec .rdStatus s = .next { s with responses := s.responses ++
      [.data ((s.errcode ++ 0#7 ++ BitVec.ofBool s.ready).setWidth 32)] } ∧
    (statusWord s.ready s.errcode).getLsbD 0 = s.ready ∧
    (statusWord s.ready s.errcode).extractLsb' 1 7 = 0#7 ∧
    (statusWord s.ready s.errcode).extractLsb' 8 4 = s.errcode ∧
    (statusWord s.ready s.errcode).extractLsb' 12 20 = 0#20 ∧
    (∀ w : Word, decode (.wr 0x000C#15 w) = .ok (.wrRoOrReserved 0x000C#15 w)) ∧
    State.reset.ready = false ∧ State.reset.errcode = 0#4

/-- R88: a write to NUM_CHANNELS stores all 32 bits of any value, and a read returns all 32 bits. -/
def Obligations.NumChannelsStoresAndReadsWholeWord : Prop :=
  ∀ (s : State) (w : Word),
    exec (.wrNumChannels w) s = .next { s with numChannels := w, responses := s.responses ++ [.ok] } ∧
    exec .rdNumChannels s = .next { s with responses := s.responses ++ [.data s.numChannels] }

/-- R89: the five binary16 registers read as their value in bits 15..0 with bits 31..16 zero; a write to the two
writable ones stores W[15:0] bit for bit and ignores W[31:16], so a read returns the same 16 bits. -/
def Obligations.Binary16RegistersHoldLowHalf : Prop :=
  ∀ (s : State) (c : Channel) (w : Word),
    exec .rdSampleInterval s = .next { s with responses := s.responses ++ [.data (s.sampleInterval.setWidth 32)] } ∧
    exec .rdFreqOut s = .next { s with responses := s.responses ++ [.data (s.freqOut.setWidth 32)] } ∧
    exec .rdPeakMag2 s = .next { s with responses := s.responses ++ [.data (s.peakMag2.setWidth 32)] } ∧
    exec .rdElapsed s = .next { s with responses := s.responses ++ [.data (s.elapsed.setWidth 32)] } ∧
    exec (.rdChSample c) s = .next { s with responses := s.responses ++ [.data ((s.chSample[c]).setWidth 32)] } ∧
    (∀ x : F16, (x.setWidth 32).extractLsb' 0 16 = x ∧ (x.setWidth 32).extractLsb' 16 16 = 0#16) ∧
    exec (.wrSampleInterval w) s =
      .next { s with sampleInterval := w.extractLsb' 0 16, responses := s.responses ++ [.ok] } ∧
    exec (.wrChSample c w) s =
      .next { s with chSample := s.chSample.set c.val (w.extractLsb' 0 16) c.isLt, responses := s.responses ++ [.ok] } ∧
    (∀ c' : Channel, (s.chSample.set c.val (w.extractLsb' 0 16) c.isLt)[c'] =
      if c' = c then w.extractLsb' 0 16 else s.chSample[c'])

/-- R90: PEAK_BIN reads in bits 8..0, bits 31..9 zero. -/
def Obligations.PeakBinReadsNineBits : Prop :=
  ∀ s : State,
    exec .rdPeakBin s = .next { s with responses := s.responses ++ [.data (s.peakBin.setWidth 32)] } ∧
    (s.peakBin.setWidth 32).extractLsb' 0 9 = s.peakBin ∧ (s.peakBin.setWidth 32).extractLsb' 9 23 = 0#23

/-- R91: RB_CURSOR[c] reads CUR[c], 0 to 249, in bits 7..0, bits 31..8 zero. -/
def Obligations.RbCursorReadsCursor : Prop :=
  ∀ (s : State) (c : Channel), ∃ w : Word,
    exec (.rdRbCursor c) s = .next { s with responses := s.responses ++ [.data w] } ∧
    (w.extractLsb' 0 8).toNat = (s.cur[c]).val ∧ (s.cur[c]).val ≤ 249 ∧ w.extractLsb' 8 24 = 0#24

/-- R92, R142: RB_SNAP[c][j] is at 0x1000 + 0x400c + 4j, decodes only when off[14:10] is 4 to 23 and off[9:2] is 0 to 249,
and reads the j-th oldest stored sample, RB[c][(CUR[c] + j) mod 250]. -/
def Obligations.RbSnapReadsSnapshotInOrder : Prop :=
  (∀ (c : Channel) (j : Slot), (Register.offset (.rbSnap c j)).toNat = 0x1000 + 0x400 * c.val + 4 * j.val) ∧
  (∀ (off : Offset) (c : Channel) (j : Slot), registerAt off = some (.rbSnap c j) ↔
    (off.extractLsb' 10 5).toNat = c.val + 4 ∧ (off.extractLsb' 2 8).toNat = j.val ∧ off.extractLsb' 0 2 = 0#2) ∧
  (∀ off : Offset, 0x1000 ≤ off.toNat → 250 ≤ (off.extractLsb' 2 8).toNat → registerAt off = none) ∧
  (∀ (s : State) (c : Channel) (j : Slot),
    exec (.rdRbSnap c j) s = .next { s with responses := s.responses ++
      [.data ((Memory.read s.rb (250 * c.val + ((s.cur[c]).val + j.val) % 250)).setWidth 32)] })

/-- R93: an access to a reserved offset gets BUS_ERROR and changes nothing, in either direction. -/
def Obligations.ReservedOffsetsGetBusError : Prop :=
  ∀ (off : Offset) (w : Word), reservedOffset off = true →
    decode (.rd off) = .ok (.rdReserved off) ∧ decode (.wr off w) = .ok (.wrRoOrReserved off w) ∧
    (∀ s : State, exec (.rdReserved off) s = .next { s with responses := s.responses ++ [.busError] }) ∧
    (∀ s : State, exec (.wrRoOrReserved off w) s = .next { s with responses := s.responses ++ [.busError] })

/-- R165: a write to a read-only register or to a reserved offset gets BUS_ERROR and changes nothing. -/
def Obligations.WritesToReadOnlyRegistersGetBusError : Prop :=
  (∀ (r : Register) (w : Word), readOnlyRegister r = true →
    decode (.wr r.offset w) = .ok (.wrRoOrReserved r.offset w)) ∧
  (∀ (off : Offset) (w : Word), reservedOffset off = true → decode (.wr off w) = .ok (.wrRoOrReserved off w)) ∧
  (∀ (off : Offset) (w : Word) (s : State),
    exec (.wrRoOrReserved off w) s = .next { s with responses := s.responses ++ [.busError] })

/-- R69: a read has no side effect, so two reads of the same offset in a row get the same response. -/
def Obligations.RepeatedReadsAgree : Prop :=
  ∀ (s : State) (a : Access) (rest : List Input),
    s.pending = .access a :: .access a :: rest → s.control = .idle → a.dir = .read →
      ∃ r, step s = .next { s with pending := .access a :: rest, responses := s.responses ++ [r] } ∧
        step { s with pending := .access a :: rest, responses := s.responses ++ [r] } =
          .next { s with pending := rest, responses := s.responses ++ [r] ++ [r] }

/-! ### Commands -/

/-- R168: the word 0 is NOP, and NOP changes nothing; STATUS keeps its value. -/
def Obligations.NopChangesNothing : Prop :=
  decode (.wr 0x0008#15 0x00000000#32) = .ok .nop ∧
  ∀ s : State, exec .nop s = .next { s with responses := s.responses ++ [.ok] }

/-- R293: INIT sets ELAPSED, every slot, every cursor, the three results and STATUS to their reset values, leaves the
staging registers as they are, and ends in IDLE; from a state whose ring memory is in canonical form, nothing else
differs from reset. What the working memories hold is not stated (log 6). -/
def Obligations.InitClearsEstimator : Prop :=
  ∀ s : State, ∃ t, exec .init s = .next t ∧
    t = { s with elapsed := 0x0000#16, freqOut := 0x0000#16, peakBin := 0#9, peakMag2 := 0x0000#16, ready := false,
                 errcode := 0#4, rb := t.rb, cur := Vector.replicate 20 0, control := .idle, scratch := t.scratch,
                 responses := s.responses ++ [.ok] } ∧
    (∀ (c : Channel) (i : Slot), t.slot c i = 0x0000#16) ∧
    (Memory.wf s.rb = true →
      t = { State.reset with chSample := s.chSample, numChannels := s.numChannels, sampleInterval := s.sampleInterval,
                             scratch := t.scratch, pending := s.pending, responses := s.responses ++ [.ok] })

/-- R294: INIT twice leaves the state of one INIT, but for the second response, and reset followed by INIT leaves the
reset state. What the working memories hold is not stated (log 6). -/
def Obligations.InitIsIdempotent : Prop :=
  (∀ s t : State, exec .init s = .next t →
    ∃ u, exec .init t = .next u ∧ u = { t with scratch := u.scratch, responses := t.responses ++ [.ok] }) ∧
  (∃ u, exec .init State.reset = .next u ∧ u = { State.reset with scratch := u.scratch, responses := [.ok] })

/-- The model's choice (log 3, DEDUCED from R167 and R85): on the words 0, 1 and 2 the meaning of WR.CMD is that of NOP,
INIT and STEP. No access decodes to WR.CMD with these words: the decoder gives the command its own instruction. -/
def Obligations.CmdWriteSelectsByWholeWord : Prop :=
  ∀ s : State,
    exec (.wrCmd 0#32) s = .next { s with responses := s.responses ++ [.ok] } ∧
    (exec (.wrCmd 1#32) s = exec .init s ∧
      ∃ t, exec (.wrCmd 1#32) s = .next t ∧ t.elapsed = 0x0000#16 ∧ t.ready = false ∧ t.errcode = 0#4) ∧
    (exec (.wrCmd 2#32) s = exec .step s ∧
      ∃ t, exec (.wrCmd 2#32) s = .next t ∧ t.responses = s.responses ++ [.ok])

/-- R175: a CMD word other than 0, 1 and 2 is BAD_CMD: READY 0, ERRCODE 1, an OK response, nothing else. -/
def Obligations.ReservedCommandIsBadCmd : Prop :=
  ∀ (s : State) (w : Word), w ≠ 0#32 → w ≠ 1#32 → w ≠ 2#32 →
    decode (.wr 0x0008#15 w) = .ok (.wrCmd w) ∧
    exec (.wrCmd w) s = .next { s with ready := false, errcode := 1#4, responses := s.responses ++ [.ok] }

/-- R170, R270: the interval check refuses exactly +0, -0, the negative values, -infinity and every NaN. -/
def Obligations.IntervalCheckRefusesNonPositive : Prop :=
  ∀ si : F16, gt16 si zero16 = true ↔ isNaN16 si = false ∧ isZero16 si = false ∧ sign16 si = false

/-- R144: the ingest of an accepted STEP pushes the staged sample of each channel below NUM_CHANNELS and leaves the
other channels alone, whether or not the gate opens. -/
def Obligations.IngestPushesActiveChannels : Prop :=
  (∀ (s : State) (nc : Word), Memory.wf s.rb = true → ∀ (c : Channel) (i : Slot),
    (ingest nc s).slot c i =
      (if c.val < nc.toNat ∧ i = s.cur[c] then s.chSample[c] else s.slot c i) ∧
    ((ingest nc s).cur[c]).val = (if c.val < nc.toNat then ((s.cur[c]).val + 1) % 250 else (s.cur[c]).val)) ∧
  (∀ s : State, frameAccepted s = true →
    ∃ t, exec .step s = .next t ∧ t.rb = (ingest s.numChannels s).rb ∧ t.cur = (ingest s.numChannels s).cur)

/-- R170: STEP is its pseudocode. Too many channels, then a bad interval, are rejected; otherwise the samples are pushed
and ELAPSED advances, and the gate either ends the command or, with 1.0 subtracted, runs the pass, whose results are the
detection on the sum of the active channels' spectra. -/
def Obligations.StepFollowsItsPseudocode : Prop :=
  ∀ s : State,
    (20 < s.numChannels.toNat → exec .step s =
      .next { s with ready := false, errcode := 2#4, control := .idle, responses := s.responses ++ [.ok] }) ∧
    (s.numChannels.toNat ≤ 20 → gt16 s.sampleInterval zero16 = false → exec .step s =
      .next { s with ready := false, errcode := 3#4, control := .idle, responses := s.responses ++ [.ok] }) ∧
    (s.numChannels.toNat ≤ 20 → gt16 s.sampleInterval zero16 = true →
      lt16 (add16 s.elapsed s.sampleInterval) one16 = true → exec .step s =
        .next { s with rb := (ingest s.numChannels s).rb, cur := (ingest s.numChannels s).cur,
                       elapsed := add16 s.elapsed s.sampleInterval, ready := false, errcode := 0#4,
                       control := .idle, responses := s.responses ++ [.ok] }) ∧
    (s.numChannels.toNat ≤ 20 → gt16 s.sampleInterval zero16 = true →
      lt16 (add16 s.elapsed s.sampleInterval) one16 = false →
        ∃ t, exec .step s = .next t ∧
          t = { s with rb := (ingest s.numChannels s).rb, cur := (ingest s.numChannels s).cur,
                       elapsed := sub16 (add16 s.elapsed s.sampleInterval) one16, ready := true, errcode := 0#4,
                       peakBin := BitVec.ofNat 9
                         (peak (magnitudes (spectralSumOf s.numChannels (ingest s.numChannels s)))).1,
                       peakMag2 := (peak (magnitudes (spectralSumOf s.numChannels (ingest s.numChannels s)))).2,
                       freqOut := div16
                         (cvt16 (peak (magnitudes (spectralSumOf s.numChannels (ingest s.numChannels s)))).1)
                         (mul16 n16 s.sampleInterval),
                       scratch := t.scratch, control := .idle, responses := s.responses ++ [.ok] })

/-! ### Whole-machine rules -/

/-- R291: every register's reset value, and the constants ID and CONFIG. -/
def Obligations.ResetValuesAreAsStated : Prop :=
  (∀ c : Channel, State.reset.chSample[c] = 0x0000#16) ∧ State.reset.numChannels = 0#32 ∧
  State.reset.sampleInterval = 0x0000#16 ∧ State.reset.ready = false ∧ State.reset.errcode = 0#4 ∧
  State.reset.freqOut = 0x0000#16 ∧ State.reset.peakBin = 0#9 ∧ State.reset.peakMag2 = 0x0000#16 ∧
  State.reset.elapsed = 0x0000#16 ∧ (∀ (c : Channel) (i : Slot), State.reset.slot c i = 0x0000#16) ∧
  (∀ c : Channel, State.reset.cur[c] = 0) ∧ readRegister .id State.reset = 0x53504543#32 ∧
  readRegister .config State.reset = 0x0400FA14#32 ∧ State.reset.control = .idle

/-- The machine's invariant holds after reset: IDLE, an error code that is written, ELAPSED and FREQ_OUT neither NaN nor
negative, a peak magnitude not negative, canonical ring memory. The sizes of the working memories at reset are the
model's (log 6). -/
def Obligations.ResetStateIsWellFormed : Prop := State.reset.wf = true

/-- R25, R38, R191, R250, R253: every step keeps the invariant, from every state that has it. -/
def Obligations.EveryStepKeepsWellFormedness : Prop :=
  ∀ s t : State, s.wf = true → step s = .next t → t.wf = true

/-- R37: no response depends on what the working memories hold: a step keeps two states equal but for them, with the
same responses, and so do any inputs from any state. -/
def Obligations.ResponsesDoNotDependOnScratch : Prop :=
  (∀ s t s' : State, sameButScratch s t → step s = .next s' →
    ∃ t', step t = .next t' ∧ sameButScratch s' t' ∧ s'.responses = t'.responses) ∧
  ∀ (s t : State) (inputs : List Input), sameButScratch s t → observe s inputs = observe t inputs

/-- R69: only a command can change the rings, the cursors, ELAPSED, the results, STATUS, the working memories or the
control state. -/
def Obligations.OnlyCommandsChangeTheEstimator : Prop :=
  ∀ (i : Instr) (s t : State), exec i s = .next t → i ≠ .init → i ≠ .step → (∀ w, i ≠ .wrCmd w) →
    t.rb = s.rb ∧ t.cur = s.cur ∧ t.elapsed = s.elapsed ∧ t.freqOut = s.freqOut ∧ t.peakBin = s.peakBin ∧
    t.peakMag2 = s.peakMag2 ∧ t.ready = s.ready ∧ t.errcode = s.errcode ∧ t.scratch = s.scratch ∧ t.control = s.control

/-- R21, R162 to R164, R169: a staging register changes only by a write to it, never
by a command. -/
def Obligations.StagingChangesOnlyByItsWrite : Prop :=
  ∀ (i : Instr) (s t : State), exec i s = .next t →
    (t.numChannels = s.numChannels ∨ ∃ w, i = .wrNumChannels w ∧ t.numChannels = w) ∧
    (t.sampleInterval = s.sampleInterval ∨ ∃ w, i = .wrSampleInterval w ∧ t.sampleInterval = w.extractLsb' 0 16) ∧
    (∀ c : Channel, t.chSample[c] = s.chSample[c] ∨
      ∃ w, i = .wrChSample c w ∧ t.chSample[c] = w.extractLsb' 0 16)

/-- R197: the gate reads only ELAPSED and the interval: two accepted STEPs that agree on them agree on READY and on the
new ELAPSED, whatever else differs. -/
def Obligations.GateReadsOnlyElapsedAndInterval : Prop :=
  ∀ s s' t t' : State, frameAccepted s = true → frameAccepted s' = true → s.elapsed = s'.elapsed →
    s.sampleInterval = s'.sampleInterval → exec .step s = .next t → exec .step s' = .next t' →
      t.ready = t'.ready ∧ t.elapsed = t'.elapsed

/-- R299: once ELAPSED is +infinity, every accepted STEP runs a pass and only INIT (or reset) changes ELAPSED. -/
def Obligations.InfiniteElapsedLastsUntilInit : Prop :=
  ∀ (i : Instr) (s t : State), s.elapsed = 0x7C00#16 → exec i s = .next t →
    (i ≠ .init → i ≠ .wrCmd 1#32 → t.elapsed = 0x7C00#16) ∧
    (i = .step → frameAccepted s = true → t.ready = true) ∧
    (i = .init → t.elapsed = 0x0000#16) ∧ State.reset.elapsed = 0x0000#16

/-- R196 (b), R179 (d): with the smallest interval the gate never opens: ELAPSED climbs by one unit to 2^-13 and
stays. -/
def Obligations.TinyIntervalNeverOpensGate : Prop :=
  ∀ s : State, s.numChannels.toNat ≤ 20 → s.sampleInterval = 0x0001#16 → s.elapsed.toNat ≤ 0x0800 →
    ∃ t, exec .step s = .next t ∧ t.ready = false ∧ t.elapsed.toNat = min (s.elapsed.toNat + 1) 0x0800

/-- R194: with the interval 0x291F from ELAPSED +0, the first 24 sums are below 1.0, the 25th is exactly 1.0 and the
subtraction leaves +0. So of STEPs one after the other, whatever the samples and for at most 20 channels, every 25th and
no other runs a pass, forever. -/
def Obligations.CadenceOfPointZeroFourIsTwentyFive : Prop :=
  (List.range 25).map (fun k => (fun e => add16 e 0x291F#16)^[k + 1] 0x0000#16) =
    [0x291F#16, 0x2D1F#16, 0x2FAE#16, 0x311F#16, 0x3267#16, 0x33AF#16, 0x347B#16, 0x351F#16, 0x35C3#16, 0x3667#16,
     0x370B#16, 0x37AF#16, 0x3829#16, 0x387B#16, 0x38CD#16, 0x391F#16, 0x3971#16, 0x39C3#16, 0x3A15#16, 0x3A67#16,
     0x3AB9#16, 0x3B0B#16, 0x3B5D#16, 0x3BAF#16, 0x3C00#16] ∧
  (∀ k, k < 24 → lt16 ((fun e => add16 e 0x291F#16)^[k + 1] 0x0000#16) one16 = true) ∧
  lt16 0x3C00#16 one16 = false ∧ sub16 0x3C00#16 one16 = 0x0000#16 ∧
  ∀ (s : State) (n : Nat), s.numChannels.toNat ≤ 20 → s.sampleInterval = 0x291F#16 → s.elapsed = 0x0000#16 →
    ∃ t, stepCommands (n + 1) s = .next t ∧ t.ready = decide ((n + 1) % 25 = 0) ∧ t.errcode = 0#4 ∧
      t.elapsed = (fun e => add16 e 0x291F#16)^[(n + 1) % 25] 0x0000#16

/-! ### Ring buffers -/

/-- R143: after pushes to any channels, at least 250 of them to channel c, the snapshot of c is the last 250 values
pushed to it, in push order. -/
def Obligations.SnapshotIsLastPushes : Prop :=
  ∀ (s : State) (c : Channel) (ps : List (Channel × F16)), Memory.wf s.rb = true →
    250 ≤ ((ps.filter fun p => p.1 = c).map Prod.snd).length →
      rbSnapshot c (ps.foldl (fun t p => rbPush p.1 p.2 t) s) =
        ((ps.filter fun p => p.1 = c).map Prod.snd).drop (((ps.filter fun p => p.1 = c).map Prod.snd).length - 250)

/-- R145: exactly 250 pushes right after rb_reset leave the cursor at 0 and the snapshot is the values pushed. -/
def Obligations.FullWrapReturnsToStart : Prop :=
  ∀ (s : State) (c : Channel) (vs : List F16), Memory.wf s.rb = true → vs.length = 250 →
    (pushAll c vs (rbReset c s)).cur[c] = 0 ∧ rbSnapshot c (pushAll c vs (rbReset c s)) = vs

/-! ### Binary16 -/

/-- R102: a rounding is to nearest, ties to even. The result is an infinity, exactly from 65520 on, or finite; its sign
is that of the value, or zs for 0. No finite pattern is nearer to num / den than a finite result, and at equal distance
from another value the result's last bit is 0. -/
def Obligations.RoundingIsNearestTiesToEven : Prop :=
  ∀ (num : Int) (den : Nat) (zs : Bool), 0 < den →
    (isFinite16 (rnd16 num den zs) = true ∨ isInf16 (rnd16 num den zs) = true) ∧
    sign16 (rnd16 num den zs) = (if num = 0 then zs else decide (num < 0)) ∧
    (isInf16 (rnd16 num den zs) = true ↔ 65520 * den ≤ num.natAbs) ∧
    (isFinite16 (rnd16 num den zs) = true → ∀ y : F16, isFinite16 y = true →
      |val24 (rnd16 num den zs) * den - num * 2 ^ 24| ≤ |val24 y * den - num * 2 ^ 24| ∧
      (|val24 (rnd16 num den zs) * den - num * 2 ^ 24| = |val24 y * den - num * 2 ^ 24| →
        val24 y ≠ val24 (rnd16 num den zs) → (rnd16 num den zs).getLsbD 0 = false))

/-- R103: the rounding is odd-symmetric. -/
def Obligations.RoundingIsOddSymmetric : Prop :=
  ∀ (num : Int) (den : Nat) (zs : Bool), rnd16 (-num) den (!zs) = neg16 (rnd16 num den zs)

/-- R109: lt16 is the strict order of the values with both infinities at the ends, +0 and -0 equal, and false on a
NaN; gt16 is its converse. -/
def Obligations.ComparisonIsTheOrderOfValues : Prop :=
  ∀ a b : F16,
    (lt16 a b = true ↔ isNaN16 a = false ∧ isNaN16 b = false ∧ order24 a < order24 b) ∧
    gt16 a b = lt16 b a ∧ (isFinite16 a = true → -(2 ^ 41) < val24 a ∧ val24 a < 2 ^ 41)

/-- R116: multiplying by 1.0, halving, adding +0 and multiplying by +0. -/
def Obligations.IdentitiesOfThePrimitives : Prop :=
  (∀ x : F16, isNaN16 x = false → mul16 x one16 = x) ∧
  (∀ x : F16, isFinite16 x = true → (2048 ≤ mag24 x ∨ mag24 x % 2 = 0) → 2 * val24 (mul16 x half16) = val24 x) ∧
  (∀ x : F16, isNaN16 x = false → x ≠ 0x8000#16 → add16 x zero16 = x) ∧
  add16 0x8000#16 zero16 = zero16 ∧
  (∀ x : F16, isFinite16 x = true → isZero16 (mul16 x zero16) = true ∧ sign16 (mul16 x zero16) = sign16 x)

/-- R111: a NaN that a primitive returns is 0x7E00. -/
def Obligations.PrimitivesReturnOneNaN : Prop :=
  ∀ a b : F16,
    (isNaN16 (add16 a b) = true → add16 a b = 0x7E00#16) ∧ (isNaN16 (sub16 a b) = true → sub16 a b = 0x7E00#16) ∧
    (isNaN16 (mul16 a b) = true → mul16 a b = 0x7E00#16) ∧ (isNaN16 (div16 a b) = true → div16 a b = 0x7E00#16)

/-! ### Window, transform and detection -/

/-- R211, R212: TD[n] is the n-th oldest sample times HANN[n] for n below 250, and +0 from 250 to 1023. -/
def Obligations.TaperMultipliesThenZeroFills : Prop :=
  ∀ snap : List F16, snap.length = 250 →
    (taper snap).length = 1024 ∧
    (∀ n, n < 250 → (taper snap).getD n zero16 = mul16 (snap.getD n zero16) (hann n)) ∧
    (∀ n, 250 ≤ n → n < 1024 → (taper snap).getD n qnan16 = 0x0000#16)

/-- R214, R215: packing pairs the words 2n and 2n + 1, and the bit reversal puts z[n] at rev9(n), which reverses the 9
bits of n, with rev9(1) = 256, rev9(2) = 128 and rev9(3) = 384. -/
def Obligations.PackAndBitReversePlaceEachSample : Prop :=
  (∀ (x : List F16) (n : Nat), x.length = 1024 → n < 512 →
    (packPairs x).getD n (qnan16, qnan16) = (x.getD (2 * n) zero16, x.getD (2 * n + 1) zero16)) ∧
  (∀ (z : List Complex16) (n : Nat), z.length = 512 → n < 512 →
    (bitReverse z).getD (rev9 n) (qnan16, qnan16) = z.getD n (zero16, zero16)) ∧
  (∀ n, n < 512 → ∀ i, i < 9 → (rev9 n).testBit i = n.testBit (8 - i)) ∧
  rev9 1 = 256 ∧ rev9 2 = 128 ∧ rev9 3 = 384

/-- R216: stage s applies the butterfly to each pair (b + j, b + j + h) of each block b, from the values the stage
received, and the nine stages run in order. -/
def Obligations.StageAppliesEveryButterfly : Prop :=
  (∀ a : List Complex16,
    stages a = stage 9 (stage 8 (stage 7 (stage 6 (stage 5 (stage 4 (stage 3 (stage 2 (stage 1 a))))))))) ∧
  ∀ (s blk j : Nat) (a : List Complex16), 1 ≤ s → s ≤ 9 → a.length = 512 → blk < 512 / 2 ^ s → j < 2 ^ s / 2 →
    (stage s a).length = 512 ∧
    (let c := cos1024 (2 * j * (512 / 2 ^ s)); let sn := sin1024 (2 * j * (512 / 2 ^ s))
     let p := a.getD (blk * 2 ^ s + j) (zero16, zero16)
     let q := a.getD (blk * 2 ^ s + j + 2 ^ s / 2) (zero16, zero16)
     let tr := add16 (mul16 c q.1) (mul16 sn q.2)
     let ti := sub16 (mul16 c q.2) (mul16 sn q.1)
     (stage s a).getD (blk * 2 ^ s + j) (qnan16, qnan16) = (add16 p.1 tr, add16 p.2 ti) ∧
     (stage s a).getD (blk * 2 ^ s + j + 2 ^ s / 2) (qnan16, qnan16) = (sub16 p.1 tr, sub16 p.2 ti))

/-- R217, R218: the split step writes words 0 and 1 from Z[0] and words 2k and 2k + 1 from Z[k] and Z[512 - k]. -QNAN16 is
0xFE00. REF is the four pieces in order, R214 to R218. On the unit impulse x[1] = 1 it is exact: words 0 and 1 are 1.0 and
-1.0 and bin k is (C1024[k], -S1024[k]), a consequence of those rules that R223 (b), derived and not normative, names. -/
def Obligations.SplitWritesPackedSpectrum : Prop :=
  (∀ z : List Complex16, z.length = 512 →
    (split z).length = 1024 ∧
    (split z).getD 0 qnan16 = add16 (z.getD 0 (zero16, zero16)).1 (z.getD 0 (zero16, zero16)).2 ∧
    (split z).getD 1 qnan16 = sub16 (z.getD 0 (zero16, zero16)).1 (z.getD 0 (zero16, zero16)).2 ∧
    (∀ k, 1 ≤ k → k < 512 →
      let a := z.getD k (zero16, zero16); let u := z.getD (512 - k) (zero16, zero16)
      let c := cos1024 k; let sn := sin1024 k
      let er := mul16 (add16 a.1 u.1) half16; let ei := mul16 (sub16 a.2 u.2) half16
      let od := mul16 (add16 a.2 u.2) half16; let oi := neg16 (mul16 (sub16 a.1 u.1) half16)
      (split z).getD (2 * k) zero16 = add16 er (add16 (mul16 c od) (mul16 sn oi)) ∧
      (split z).getD (2 * k + 1) zero16 = add16 ei (sub16 (mul16 c oi) (mul16 sn od)))) ∧
  neg16 qnan16 = 0xFE00#16 ∧
  (∀ x : List F16, refTransform x = split (stages (bitReverse (packPairs x)))) ∧
  refTransform (zero16 :: one16 :: List.replicate 1022 zero16) =
    0x3C00#16 :: 0xBC00#16 :: (List.range' 1 511).flatMap fun k => [cos1024 k, neg16 (sin1024 k)]

/-- R222: the accumulator after the sum is the fold of the channels' spectra from +0, over the channels 0, 1, ..., nc - 1
in ascending order, whatever it held before; with no channel it is 1024 words of +0; with one channel each word is SPEC[j],
but -0 becomes +0 and a NaN becomes QNAN16. -/
def Obligations.SpectralSumFoldsChannelsAscending : Prop :=
  (∀ nc : Word, (activeChannels nc).map Fin.val = List.range (min nc.toNat 20)) ∧
  ∀ s : State,
    (∀ nc : Word, (spectralSum nc s).scratch.acc = spectralSumOf nc s) ∧
    (∀ n : Channel, spectralSumOf (BitVec.ofNat 32 (n.val + 1)) s =
      List.zipWith add16 (spectralSumOf (BitVec.ofNat 32 n.val) s) (spectrumOf n s)) ∧
    spectralSumOf 0#32 s = List.replicate 1024 0x0000#16 ∧
    spectralSumOf 1#32 s = (spectrumOf 0 s).map (fun x =>
      if isNaN16 x = true then qnan16 else if x = 0x8000#16 then 0x0000#16 else x)

/-- R210, R213: the two ROM tables agree with each other and with the identities of their formulas: cos^2 + sin^2 is
1 within 2^-10, and 2 HANN[i] is 1 - cos(2 pi i / 1024) within 2^-11. -/
def Obligations.RomTablesAgree : Prop :=
  (∀ k, k ≤ 256 →
    |val24 (cosq k) * val24 (cosq k) + val24 (cosq (256 - k)) * val24 (cosq (256 - k)) - 2 ^ 48| ≤ 2 ^ 38) ∧
  (∀ i, i < 512 → |2 * val24 (hann i) - (2 ^ 24 - val24 (cos1024 i))| ≤ 2 ^ 13) ∧
  (∀ i, 1 ≤ i → i < 1024 → hann (1024 - i) = hann i)

/-- R250: MAG[k] is the rounded sum of the rounded squares of ACC[2k] and ACC[2k + 1], for k from 0 to 511, and is never
negative and never -0. -/
def Obligations.MagnitudeIsNeverNegative : Prop :=
  (∀ acc : List F16, acc.length = 1024 →
    (magnitudes acc).length = 512 ∧
    ∀ k, k < 512 → (magnitudes acc).getD k qnan16 =
      add16 (mul16 (acc.getD (2 * k) qnan16) (acc.getD (2 * k) qnan16))
        (mul16 (acc.getD (2 * k + 1) qnan16) (acc.getD (2 * k + 1) qnan16))) ∧
  ∀ re im : F16, sign16 (magSquared re im) = false

/-- R251: unless bin 0 is a NaN, the peak is the first maximum: its value is at its index, no bin is greater, and
every earlier bin is smaller or a NaN. If bin 0 is a NaN the peak is bin 0. -/
def Obligations.PeakIsTheFirstMaximum : Prop :=
  ∀ (m0 : F16) (mag : List F16),
    (isNaN16 m0 = true → peak (m0 :: mag) = (0, m0)) ∧
    (isNaN16 m0 = false →
      (m0 :: mag)[(peak (m0 :: mag)).1]? = some (peak (m0 :: mag)).2 ∧
      isNaN16 (peak (m0 :: mag)).2 = false ∧
      (∀ v ∈ m0 :: mag, gt16 v (peak (m0 :: mag)).2 = false) ∧
      (∀ j v, j < (peak (m0 :: mag)).1 → (m0 :: mag)[j]? = some v →
        isNaN16 v = true ∨ gt16 (peak (m0 :: mag)).2 v = true))

/-- R253: for an interval above +0 the frequency of a bin is never NaN and never negative, bin 0 gives +0, and an
interval of 64 or more gives +0 for every bin. -/
def Obligations.FrequencyIsNeverNegative : Prop :=
  ∀ (si : F16) (bin : Nat), gt16 si zero16 = true → bin < 512 →
    nonNegative16 (frequency bin si) = true ∧ frequency 0 si = 0x0000#16 ∧
    (lt16 si 0x5400#16 = false → frequency bin si = 0x0000#16)

/-- R257: silence gives bin 0: if every slot of every active channel holds a zero of either sign after the ingest and
the gate opens, the STEP reports bin 0, magnitude +0 and 0 Hz. -/
def Obligations.SilenceReportsZeroHertz : Prop :=
  ∀ s : State, frameAccepted s = true → gateOpens s = true →
    (∀ c : Channel, c.val < s.numChannels.toNat → ∀ i : Slot, isZero16 ((ingest s.numChannels s).slot c i) = true) →
    ∃ t, exec .step s = .next t ∧ t.ready = true ∧ t.peakBin = 0#9 ∧ t.peakMag2 = 0x0000#16 ∧ t.freqOut = 0x0000#16

/-- R303, as far as R211 and R214 to R218 bear it out: one NaN or infinite sample in the snapshot of an active channel makes
the pass report bin 0 and 0 Hz, with the magnitude 0x7E00, or, for an infinity at snapshot position 1 only, 0x7E00 or
0x7C00. A NaN makes every word of the sum 0x7E00. That an infinity does so too is not stated: it does not follow (log
13). -/
def Obligations.NaNSamplePoisonsThePass : Prop :=
  ∀ (s : State) (c : Channel) (j : Slot), frameAccepted s = true → gateOpens s = true →
    c.val < s.numChannels.toNat → isFinite16 (snapshotAt c j (ingest s.numChannels s)) = false →
    ∃ t, exec .step s = .next t ∧ t.ready = true ∧ t.peakBin = 0#9 ∧ t.freqOut = 0x0000#16 ∧
      (t.peakMag2 = 0x7E00#16 ∨ t.peakMag2 = 0x7C00#16) ∧
      (isNaN16 (snapshotAt c j (ingest s.numChannels s)) = true ∨ j ≠ 1 → t.peakMag2 = 0x7E00#16) ∧
      (isNaN16 (snapshotAt c j (ingest s.numChannels s)) = true →
        spectralSumOf s.numChannels (ingest s.numChannels s) = List.replicate 1024 0x7E00#16)

/-- Log 13: by R211 and R214 to R218 an infinite sample at snapshot position 1, over a ring of zeros, gives the packed
words 0 and 1 as +infinity and -infinity, not QNAN16 as R223 (c) and R303 say. -/
def Obligations.InfinityAtPositionOneIsNotNaN : Prop :=
  ((refTransform (taper (0x0000#16 :: 0x7C00#16 :: List.replicate 248 0x0000#16))).take 2) = [0x7C00#16, 0xFC00#16]

/-! ### The bus -/

/-- R60, R65: an offset is found at BASE_ADDR plus it, addresses outside the aperture find none, BASE_ADDR is a multiple
of 0x8000, and the byte lanes of a word are its bytes, least significant first. -/
def Obligations.AddressesAndLanesRoundTrip : Prop :=
  (∀ off : Offset, routeAddress (busAddress off) = some off) ∧
  (∀ addr : Nat, ¬ (Config.baseAddr ≤ addr ∧ addr < Config.baseAddr + 0x8000) → routeAddress addr = none) ∧
  Config.baseAddr % 0x8000 = 0 ∧
  (∀ w : Word, wordOfLanes (byteLane w 0) (byteLane w 1) (byteLane w 2) (byteLane w 3) = w)

/-- R64: a burst is its beats, single 32-bit accesses at increasing offsets. That the offsets rise by 4 is the model's (log 8,
DEDUCED from the width of a beat). -/
def Obligations.BurstIsItsBeats : Prop :=
  ∀ (dir : Direction) (off : Nat) (ws : List Word), off + 4 * ws.length ≤ 0x8000 →
    (burst dir off ws).length = ws.length ∧
    ∀ k, k < ws.length →
      (burst dir off ws)[k]? =
        some (.access { dir := dir, size := 4, off := BitVec.ofNat 15 (off + 4 * k), data := ws.getD k 0#32 })
end

