-- ==== Sys2Proof/Laws/Fp16.lean ====
section
/-! SUPPORT. The small lemmas of binary16: the fields of a packed pattern, and what a rounding can answer. -/

namespace Sys2Proof.Machine

/-! ### Fields (40_fp16.md R100) -/

theorem pack16_toNat (s : Bool) (e : BitVec 5) (f : BitVec 10) :
    (pack16 s e f).toNat = s.toNat * 2 ^ 15 + e.toNat * 2 ^ 10 + f.toNat := by
  have hf := f.isLt
  have he := e.isLt
  unfold pack16
  rw [BitVec.toNat_append, BitVec.toNat_append, ← Nat.shiftLeft_add_eq_or_of_lt hf,
    ← Nat.shiftLeft_add_eq_or_of_lt (b := e.toNat) he, BitVec.toNat_ofBool, Nat.shiftLeft_eq, Nat.shiftLeft_eq]
  omega

@[simp] theorem sign16_pack16 (s : Bool) (e : BitVec 5) (f : BitVec 10) : sign16 (pack16 s e f) = s := by
  have hf := f.isLt
  have he := e.isLt
  unfold sign16
  rw [BitVec.getLsbD, pack16_toNat, Nat.testBit_eq_decide_div_mod_eq]
  cases s
  · simp only [Bool.toNat_false]; simp; omega
  · simp only [Bool.toNat_true]; simp; omega

@[simp] theorem expo16_pack16 (s : Bool) (e : BitVec 5) (f : BitVec 10) : expo16 (pack16 s e f) = e.toNat := by
  have hf := f.isLt
  have he := e.isLt
  unfold expo16
  rw [BitVec.extractLsb'_toNat, pack16_toNat, Nat.shiftRight_eq_div_pow]
  cases s <;> simp only [Bool.toNat_false, Bool.toNat_true] <;> omega

@[simp] theorem frac16_pack16 (s : Bool) (e : BitVec 5) (f : BitVec 10) : frac16 (pack16 s e f) = f.toNat := by
  have hf := f.isLt
  have he := e.isLt
  unfold frac16
  rw [BitVec.extractLsb'_toNat, pack16_toNat, Nat.shiftRight_eq_div_pow]
  cases s <;> simp only [Bool.toNat_false, Bool.toNat_true] <;> omega

/-- Every pattern is the packing of its fields. -/
theorem pack16_fields (x : F16) : pack16 (sign16 x) (x.extractLsb' 10 5) (x.extractLsb' 0 10) = x := by
  apply BitVec.eq_of_toNat_eq
  have hx := x.isLt
  rw [pack16_toNat, BitVec.extractLsb'_toNat, BitVec.extractLsb'_toNat, Nat.shiftRight_eq_div_pow,
    Nat.shiftRight_eq_div_pow]
  unfold sign16
  rw [BitVec.getLsbD, Nat.testBit_eq_decide_div_mod_eq]
  by_cases h : x.toNat / 2 ^ 15 % 2 = 1
  · simp only [h, decide_true, Bool.toNat_true]; omega
  · simp only [h, decide_false, Bool.toNat_false]; omega

theorem expo16_lt (x : F16) : expo16 x < 32 := (x.extractLsb' 10 5).isLt

theorem frac16_lt (x : F16) : frac16 x < 1024 := (x.extractLsb' 0 10).isLt

/-! ### Classes -/

@[simp] theorem isNaN16_qnan : isNaN16 qnan16 = true := by decide

theorem isNaN16_pack16 (s : Bool) (e : BitVec 5) (f : BitVec 10) :
    isNaN16 (pack16 s e f) = (e.toNat == 31 && f.toNat != 0) := by
  simp [isNaN16]

@[simp] theorem sign16_signedZero16 (s : Bool) : sign16 (signedZero16 s) = s := sign16_pack16 _ _ _
@[simp] theorem sign16_signedInf16 (s : Bool) : sign16 (signedInf16 s) = s := sign16_pack16 _ _ _
@[simp] theorem isNaN16_signedZero16 (s : Bool) : isNaN16 (signedZero16 s) = false := by cases s <;> decide
@[simp] theorem isNaN16_signedInf16 (s : Bool) : isNaN16 (signedInf16 s) = false := by cases s <;> decide
@[simp] theorem isZero16_signedZero16 (s : Bool) : isZero16 (signedZero16 s) = true := by cases s <;> decide
@[simp] theorem isInf16_signedInf16 (s : Bool) : isInf16 (signedInf16 s) = true := by cases s <;> decide

/-! ### Rounding (R102) -/

/-- The significand of the chosen binade is at most 2048, so `finish16` sees every case of R102. -/
theorem nearestEven_binade_le (a d : Nat) : nearestEven a (d * 2 ^ binade24 a d) ≤ 2048 := by
  have hq : a / (d * 2 ^ binade24 a d) < 2048 := by
    rw [← Nat.div_div_eq_div_mul]
    by_cases h0 : a / d = 0
    · rw [h0, Nat.zero_div]; decide
    · have hlt : a / d < 2 ^ (Nat.log2 (a / d) + 1) := Nat.lt_log2_self
      have hle : Nat.log2 (a / d) + 1 ≤ binade24 a d + 11 := by unfold binade24; omega
      have hlt' : a / d < 2 ^ (binade24 a d + 11) := lt_of_lt_of_le hlt (Nat.pow_le_pow_right (by decide) hle)
      rw [Nat.div_lt_iff_lt_mul (by positivity)]
      calc a / d < 2 ^ (binade24 a d + 11) := hlt'
        _ = 2048 * 2 ^ binade24 a d := by rw [Nat.pow_add]; ring
  unfold nearestEven
  split <;> omega

/-- What the end of a rounding answers: an infinity, or a pattern whose exponent is not 31; in both cases of sign s. -/
theorem finish16_cases (s : Bool) (k n : Nat) :
    finish16 s k n = signedInf16 s ∨ ∃ e f, finish16 s k n = pack16 s e f ∧ e.toNat < 31 := by
  unfold finish16
  split
  · split
    · exact .inl rfl
    · exact .inr ⟨_, _, rfl, by rw [BitVec.toNat_ofNat]; omega⟩
  · split
    · exact .inl rfl
    · split
      · exact .inr ⟨_, _, rfl, by decide⟩
      · exact .inr ⟨_, _, rfl, by rw [BitVec.toNat_ofNat]; omega⟩

/-- A rounding answers no NaN, and its sign is that of the value. -/
theorem round24_spec (s : Bool) (a d : Nat) : isNaN16 (round24 s a d) = false ∧ sign16 (round24 s a d) = s := by
  unfold round24
  rcases finish16_cases s (binade24 a d) (nearestEven a (d * 2 ^ binade24 a d)) with h | ⟨e, f, h, he⟩
  · rw [h]; exact ⟨isNaN16_signedInf16 s, sign16_signedInf16 s⟩
  · rw [h]; refine ⟨?_, sign16_pack16 _ _ _⟩
    rw [isNaN16_pack16]
    have : e.toNat ≠ 31 := by omega
    simp [this]

/-- rnd16 answers no NaN, and its sign is that of the value, or zs for the value 0. -/
theorem rnd16_spec (num : Int) (den : Nat) (zs : Bool) :
    isNaN16 (rnd16 num den zs) = false ∧
      sign16 (rnd16 num den zs) = if num = 0 then zs else decide (num < 0) := by
  unfold rnd16
  split
  · exact ⟨isNaN16_signedZero16 zs, sign16_signedZero16 zs⟩
  · exact round24_spec _ _ _

end Sys2Proof.Machine
end

