-- ==== Sys2Proof/Laws/State.lean ====
section
/-! SUPPORT. What each update of the state does to each field: one lemma per field per update, true by definition and
tagged @[simp], so that no proof unfolds a record update. -/

namespace Sys2Proof.Machine

variable (s : State)

/-! ### setChSample -/

@[simp] theorem State.setChSample_chSample (c : Channel) (v : F16) : (s.setChSample c v).chSample = s.chSample.set c.val v c.isLt := rfl
@[simp] theorem State.setChSample_numChannels (c : Channel) (v : F16) : (s.setChSample c v).numChannels = s.numChannels := rfl
@[simp] theorem State.setChSample_sampleInterval (c : Channel) (v : F16) : (s.setChSample c v).sampleInterval = s.sampleInterval := rfl
@[simp] theorem State.setChSample_ready (c : Channel) (v : F16) : (s.setChSample c v).ready = s.ready := rfl
@[simp] theorem State.setChSample_errcode (c : Channel) (v : F16) : (s.setChSample c v).errcode = s.errcode := rfl
@[simp] theorem State.setChSample_freqOut (c : Channel) (v : F16) : (s.setChSample c v).freqOut = s.freqOut := rfl
@[simp] theorem State.setChSample_peakBin (c : Channel) (v : F16) : (s.setChSample c v).peakBin = s.peakBin := rfl
@[simp] theorem State.setChSample_peakMag2 (c : Channel) (v : F16) : (s.setChSample c v).peakMag2 = s.peakMag2 := rfl
@[simp] theorem State.setChSample_elapsed (c : Channel) (v : F16) : (s.setChSample c v).elapsed = s.elapsed := rfl
@[simp] theorem State.setChSample_rb (c : Channel) (v : F16) : (s.setChSample c v).rb = s.rb := rfl
@[simp] theorem State.setChSample_cur (c : Channel) (v : F16) : (s.setChSample c v).cur = s.cur := rfl
@[simp] theorem State.setChSample_control (c : Channel) (v : F16) : (s.setChSample c v).control = s.control := rfl
@[simp] theorem State.setChSample_scratch (c : Channel) (v : F16) : (s.setChSample c v).scratch = s.scratch := rfl
@[simp] theorem State.setChSample_pending (c : Channel) (v : F16) : (s.setChSample c v).pending = s.pending := rfl
@[simp] theorem State.setChSample_responses (c : Channel) (v : F16) : (s.setChSample c v).responses = s.responses := rfl

/-! ### setNumChannels -/

@[simp] theorem State.setNumChannels_chSample (w : Word) : (s.setNumChannels w).chSample = s.chSample := rfl
@[simp] theorem State.setNumChannels_numChannels (w : Word) : (s.setNumChannels w).numChannels = w := rfl
@[simp] theorem State.setNumChannels_sampleInterval (w : Word) : (s.setNumChannels w).sampleInterval = s.sampleInterval := rfl
@[simp] theorem State.setNumChannels_ready (w : Word) : (s.setNumChannels w).ready = s.ready := rfl
@[simp] theorem State.setNumChannels_errcode (w : Word) : (s.setNumChannels w).errcode = s.errcode := rfl
@[simp] theorem State.setNumChannels_freqOut (w : Word) : (s.setNumChannels w).freqOut = s.freqOut := rfl
@[simp] theorem State.setNumChannels_peakBin (w : Word) : (s.setNumChannels w).peakBin = s.peakBin := rfl
@[simp] theorem State.setNumChannels_peakMag2 (w : Word) : (s.setNumChannels w).peakMag2 = s.peakMag2 := rfl
@[simp] theorem State.setNumChannels_elapsed (w : Word) : (s.setNumChannels w).elapsed = s.elapsed := rfl
@[simp] theorem State.setNumChannels_rb (w : Word) : (s.setNumChannels w).rb = s.rb := rfl
@[simp] theorem State.setNumChannels_cur (w : Word) : (s.setNumChannels w).cur = s.cur := rfl
@[simp] theorem State.setNumChannels_control (w : Word) : (s.setNumChannels w).control = s.control := rfl
@[simp] theorem State.setNumChannels_scratch (w : Word) : (s.setNumChannels w).scratch = s.scratch := rfl
@[simp] theorem State.setNumChannels_pending (w : Word) : (s.setNumChannels w).pending = s.pending := rfl
@[simp] theorem State.setNumChannels_responses (w : Word) : (s.setNumChannels w).responses = s.responses := rfl

/-! ### setSampleInterval -/

@[simp] theorem State.setSampleInterval_chSample (v : F16) : (s.setSampleInterval v).chSample = s.chSample := rfl
@[simp] theorem State.setSampleInterval_numChannels (v : F16) : (s.setSampleInterval v).numChannels = s.numChannels := rfl
@[simp] theorem State.setSampleInterval_sampleInterval (v : F16) : (s.setSampleInterval v).sampleInterval = v := rfl
@[simp] theorem State.setSampleInterval_ready (v : F16) : (s.setSampleInterval v).ready = s.ready := rfl
@[simp] theorem State.setSampleInterval_errcode (v : F16) : (s.setSampleInterval v).errcode = s.errcode := rfl
@[simp] theorem State.setSampleInterval_freqOut (v : F16) : (s.setSampleInterval v).freqOut = s.freqOut := rfl
@[simp] theorem State.setSampleInterval_peakBin (v : F16) : (s.setSampleInterval v).peakBin = s.peakBin := rfl
@[simp] theorem State.setSampleInterval_peakMag2 (v : F16) : (s.setSampleInterval v).peakMag2 = s.peakMag2 := rfl
@[simp] theorem State.setSampleInterval_elapsed (v : F16) : (s.setSampleInterval v).elapsed = s.elapsed := rfl
@[simp] theorem State.setSampleInterval_rb (v : F16) : (s.setSampleInterval v).rb = s.rb := rfl
@[simp] theorem State.setSampleInterval_cur (v : F16) : (s.setSampleInterval v).cur = s.cur := rfl
@[simp] theorem State.setSampleInterval_control (v : F16) : (s.setSampleInterval v).control = s.control := rfl
@[simp] theorem State.setSampleInterval_scratch (v : F16) : (s.setSampleInterval v).scratch = s.scratch := rfl
@[simp] theorem State.setSampleInterval_pending (v : F16) : (s.setSampleInterval v).pending = s.pending := rfl
@[simp] theorem State.setSampleInterval_responses (v : F16) : (s.setSampleInterval v).responses = s.responses := rfl

/-! ### setStatus -/

@[simp] theorem State.setStatus_chSample (r : Bool) (e : BitVec 4) : (s.setStatus r e).chSample = s.chSample := rfl
@[simp] theorem State.setStatus_numChannels (r : Bool) (e : BitVec 4) : (s.setStatus r e).numChannels = s.numChannels := rfl
@[simp] theorem State.setStatus_sampleInterval (r : Bool) (e : BitVec 4) : (s.setStatus r e).sampleInterval = s.sampleInterval := rfl
@[simp] theorem State.setStatus_ready (r : Bool) (e : BitVec 4) : (s.setStatus r e).ready = r := rfl
@[simp] theorem State.setStatus_errcode (r : Bool) (e : BitVec 4) : (s.setStatus r e).errcode = e := rfl
@[simp] theorem State.setStatus_freqOut (r : Bool) (e : BitVec 4) : (s.setStatus r e).freqOut = s.freqOut := rfl
@[simp] theorem State.setStatus_peakBin (r : Bool) (e : BitVec 4) : (s.setStatus r e).peakBin = s.peakBin := rfl
@[simp] theorem State.setStatus_peakMag2 (r : Bool) (e : BitVec 4) : (s.setStatus r e).peakMag2 = s.peakMag2 := rfl
@[simp] theorem State.setStatus_elapsed (r : Bool) (e : BitVec 4) : (s.setStatus r e).elapsed = s.elapsed := rfl
@[simp] theorem State.setStatus_rb (r : Bool) (e : BitVec 4) : (s.setStatus r e).rb = s.rb := rfl
@[simp] theorem State.setStatus_cur (r : Bool) (e : BitVec 4) : (s.setStatus r e).cur = s.cur := rfl
@[simp] theorem State.setStatus_control (r : Bool) (e : BitVec 4) : (s.setStatus r e).control = s.control := rfl
@[simp] theorem State.setStatus_scratch (r : Bool) (e : BitVec 4) : (s.setStatus r e).scratch = s.scratch := rfl
@[simp] theorem State.setStatus_pending (r : Bool) (e : BitVec 4) : (s.setStatus r e).pending = s.pending := rfl
@[simp] theorem State.setStatus_responses (r : Bool) (e : BitVec 4) : (s.setStatus r e).responses = s.responses := rfl

/-! ### setResult -/

@[simp] theorem State.setResult_chSample (f : F16) (b : BitVec 9) (m : F16) : (s.setResult f b m).chSample = s.chSample := rfl
@[simp] theorem State.setResult_numChannels (f : F16) (b : BitVec 9) (m : F16) : (s.setResult f b m).numChannels = s.numChannels := rfl
@[simp] theorem State.setResult_sampleInterval (f : F16) (b : BitVec 9) (m : F16) : (s.setResult f b m).sampleInterval = s.sampleInterval := rfl
@[simp] theorem State.setResult_ready (f : F16) (b : BitVec 9) (m : F16) : (s.setResult f b m).ready = s.ready := rfl
@[simp] theorem State.setResult_errcode (f : F16) (b : BitVec 9) (m : F16) : (s.setResult f b m).errcode = s.errcode := rfl
@[simp] theorem State.setResult_freqOut (f : F16) (b : BitVec 9) (m : F16) : (s.setResult f b m).freqOut = f := rfl
@[simp] theorem State.setResult_peakBin (f : F16) (b : BitVec 9) (m : F16) : (s.setResult f b m).peakBin = b := rfl
@[simp] theorem State.setResult_peakMag2 (f : F16) (b : BitVec 9) (m : F16) : (s.setResult f b m).peakMag2 = m := rfl
@[simp] theorem State.setResult_elapsed (f : F16) (b : BitVec 9) (m : F16) : (s.setResult f b m).elapsed = s.elapsed := rfl
@[simp] theorem State.setResult_rb (f : F16) (b : BitVec 9) (m : F16) : (s.setResult f b m).rb = s.rb := rfl
@[simp] theorem State.setResult_cur (f : F16) (b : BitVec 9) (m : F16) : (s.setResult f b m).cur = s.cur := rfl
@[simp] theorem State.setResult_control (f : F16) (b : BitVec 9) (m : F16) : (s.setResult f b m).control = s.control := rfl
@[simp] theorem State.setResult_scratch (f : F16) (b : BitVec 9) (m : F16) : (s.setResult f b m).scratch = s.scratch := rfl
@[simp] theorem State.setResult_pending (f : F16) (b : BitVec 9) (m : F16) : (s.setResult f b m).pending = s.pending := rfl
@[simp] theorem State.setResult_responses (f : F16) (b : BitVec 9) (m : F16) : (s.setResult f b m).responses = s.responses := rfl

/-! ### setElapsed -/

@[simp] theorem State.setElapsed_chSample (v : F16) : (s.setElapsed v).chSample = s.chSample := rfl
@[simp] theorem State.setElapsed_numChannels (v : F16) : (s.setElapsed v).numChannels = s.numChannels := rfl
@[simp] theorem State.setElapsed_sampleInterval (v : F16) : (s.setElapsed v).sampleInterval = s.sampleInterval := rfl
@[simp] theorem State.setElapsed_ready (v : F16) : (s.setElapsed v).ready = s.ready := rfl
@[simp] theorem State.setElapsed_errcode (v : F16) : (s.setElapsed v).errcode = s.errcode := rfl
@[simp] theorem State.setElapsed_freqOut (v : F16) : (s.setElapsed v).freqOut = s.freqOut := rfl
@[simp] theorem State.setElapsed_peakBin (v : F16) : (s.setElapsed v).peakBin = s.peakBin := rfl
@[simp] theorem State.setElapsed_peakMag2 (v : F16) : (s.setElapsed v).peakMag2 = s.peakMag2 := rfl
@[simp] theorem State.setElapsed_elapsed (v : F16) : (s.setElapsed v).elapsed = v := rfl
@[simp] theorem State.setElapsed_rb (v : F16) : (s.setElapsed v).rb = s.rb := rfl
@[simp] theorem State.setElapsed_cur (v : F16) : (s.setElapsed v).cur = s.cur := rfl
@[simp] theorem State.setElapsed_control (v : F16) : (s.setElapsed v).control = s.control := rfl
@[simp] theorem State.setElapsed_scratch (v : F16) : (s.setElapsed v).scratch = s.scratch := rfl
@[simp] theorem State.setElapsed_pending (v : F16) : (s.setElapsed v).pending = s.pending := rfl
@[simp] theorem State.setElapsed_responses (v : F16) : (s.setElapsed v).responses = s.responses := rfl

/-! ### setRb -/

@[simp] theorem State.setRb_chSample (m : Memory) : (s.setRb m).chSample = s.chSample := rfl
@[simp] theorem State.setRb_numChannels (m : Memory) : (s.setRb m).numChannels = s.numChannels := rfl
@[simp] theorem State.setRb_sampleInterval (m : Memory) : (s.setRb m).sampleInterval = s.sampleInterval := rfl
@[simp] theorem State.setRb_ready (m : Memory) : (s.setRb m).ready = s.ready := rfl
@[simp] theorem State.setRb_errcode (m : Memory) : (s.setRb m).errcode = s.errcode := rfl
@[simp] theorem State.setRb_freqOut (m : Memory) : (s.setRb m).freqOut = s.freqOut := rfl
@[simp] theorem State.setRb_peakBin (m : Memory) : (s.setRb m).peakBin = s.peakBin := rfl
@[simp] theorem State.setRb_peakMag2 (m : Memory) : (s.setRb m).peakMag2 = s.peakMag2 := rfl
@[simp] theorem State.setRb_elapsed (m : Memory) : (s.setRb m).elapsed = s.elapsed := rfl
@[simp] theorem State.setRb_rb (m : Memory) : (s.setRb m).rb = m := rfl
@[simp] theorem State.setRb_cur (m : Memory) : (s.setRb m).cur = s.cur := rfl
@[simp] theorem State.setRb_control (m : Memory) : (s.setRb m).control = s.control := rfl
@[simp] theorem State.setRb_scratch (m : Memory) : (s.setRb m).scratch = s.scratch := rfl
@[simp] theorem State.setRb_pending (m : Memory) : (s.setRb m).pending = s.pending := rfl
@[simp] theorem State.setRb_responses (m : Memory) : (s.setRb m).responses = s.responses := rfl

/-! ### setCur -/

@[simp] theorem State.setCur_chSample (c : Channel) (i : Slot) : (s.setCur c i).chSample = s.chSample := rfl
@[simp] theorem State.setCur_numChannels (c : Channel) (i : Slot) : (s.setCur c i).numChannels = s.numChannels := rfl
@[simp] theorem State.setCur_sampleInterval (c : Channel) (i : Slot) : (s.setCur c i).sampleInterval = s.sampleInterval := rfl
@[simp] theorem State.setCur_ready (c : Channel) (i : Slot) : (s.setCur c i).ready = s.ready := rfl
@[simp] theorem State.setCur_errcode (c : Channel) (i : Slot) : (s.setCur c i).errcode = s.errcode := rfl
@[simp] theorem State.setCur_freqOut (c : Channel) (i : Slot) : (s.setCur c i).freqOut = s.freqOut := rfl
@[simp] theorem State.setCur_peakBin (c : Channel) (i : Slot) : (s.setCur c i).peakBin = s.peakBin := rfl
@[simp] theorem State.setCur_peakMag2 (c : Channel) (i : Slot) : (s.setCur c i).peakMag2 = s.peakMag2 := rfl
@[simp] theorem State.setCur_elapsed (c : Channel) (i : Slot) : (s.setCur c i).elapsed = s.elapsed := rfl
@[simp] theorem State.setCur_rb (c : Channel) (i : Slot) : (s.setCur c i).rb = s.rb := rfl
@[simp] theorem State.setCur_cur (c : Channel) (i : Slot) : (s.setCur c i).cur = s.cur.set c.val i c.isLt := rfl
@[simp] theorem State.setCur_control (c : Channel) (i : Slot) : (s.setCur c i).control = s.control := rfl
@[simp] theorem State.setCur_scratch (c : Channel) (i : Slot) : (s.setCur c i).scratch = s.scratch := rfl
@[simp] theorem State.setCur_pending (c : Channel) (i : Slot) : (s.setCur c i).pending = s.pending := rfl
@[simp] theorem State.setCur_responses (c : Channel) (i : Slot) : (s.setCur c i).responses = s.responses := rfl

/-! ### setControl -/

@[simp] theorem State.setControl_chSample (p : Control) : (s.setControl p).chSample = s.chSample := rfl
@[simp] theorem State.setControl_numChannels (p : Control) : (s.setControl p).numChannels = s.numChannels := rfl
@[simp] theorem State.setControl_sampleInterval (p : Control) : (s.setControl p).sampleInterval = s.sampleInterval := rfl
@[simp] theorem State.setControl_ready (p : Control) : (s.setControl p).ready = s.ready := rfl
@[simp] theorem State.setControl_errcode (p : Control) : (s.setControl p).errcode = s.errcode := rfl
@[simp] theorem State.setControl_freqOut (p : Control) : (s.setControl p).freqOut = s.freqOut := rfl
@[simp] theorem State.setControl_peakBin (p : Control) : (s.setControl p).peakBin = s.peakBin := rfl
@[simp] theorem State.setControl_peakMag2 (p : Control) : (s.setControl p).peakMag2 = s.peakMag2 := rfl
@[simp] theorem State.setControl_elapsed (p : Control) : (s.setControl p).elapsed = s.elapsed := rfl
@[simp] theorem State.setControl_rb (p : Control) : (s.setControl p).rb = s.rb := rfl
@[simp] theorem State.setControl_cur (p : Control) : (s.setControl p).cur = s.cur := rfl
@[simp] theorem State.setControl_control (p : Control) : (s.setControl p).control = p := rfl
@[simp] theorem State.setControl_scratch (p : Control) : (s.setControl p).scratch = s.scratch := rfl
@[simp] theorem State.setControl_pending (p : Control) : (s.setControl p).pending = s.pending := rfl
@[simp] theorem State.setControl_responses (p : Control) : (s.setControl p).responses = s.responses := rfl

/-! ### setScratch -/

@[simp] theorem State.setScratch_chSample (w : Scratch) : (s.setScratch w).chSample = s.chSample := rfl
@[simp] theorem State.setScratch_numChannels (w : Scratch) : (s.setScratch w).numChannels = s.numChannels := rfl
@[simp] theorem State.setScratch_sampleInterval (w : Scratch) : (s.setScratch w).sampleInterval = s.sampleInterval := rfl
@[simp] theorem State.setScratch_ready (w : Scratch) : (s.setScratch w).ready = s.ready := rfl
@[simp] theorem State.setScratch_errcode (w : Scratch) : (s.setScratch w).errcode = s.errcode := rfl
@[simp] theorem State.setScratch_freqOut (w : Scratch) : (s.setScratch w).freqOut = s.freqOut := rfl
@[simp] theorem State.setScratch_peakBin (w : Scratch) : (s.setScratch w).peakBin = s.peakBin := rfl
@[simp] theorem State.setScratch_peakMag2 (w : Scratch) : (s.setScratch w).peakMag2 = s.peakMag2 := rfl
@[simp] theorem State.setScratch_elapsed (w : Scratch) : (s.setScratch w).elapsed = s.elapsed := rfl
@[simp] theorem State.setScratch_rb (w : Scratch) : (s.setScratch w).rb = s.rb := rfl
@[simp] theorem State.setScratch_cur (w : Scratch) : (s.setScratch w).cur = s.cur := rfl
@[simp] theorem State.setScratch_control (w : Scratch) : (s.setScratch w).control = s.control := rfl
@[simp] theorem State.setScratch_scratch (w : Scratch) : (s.setScratch w).scratch = w := rfl
@[simp] theorem State.setScratch_pending (w : Scratch) : (s.setScratch w).pending = s.pending := rfl
@[simp] theorem State.setScratch_responses (w : Scratch) : (s.setScratch w).responses = s.responses := rfl

/-! ### setPending -/

@[simp] theorem State.setPending_chSample (q : List Input) : (s.setPending q).chSample = s.chSample := rfl
@[simp] theorem State.setPending_numChannels (q : List Input) : (s.setPending q).numChannels = s.numChannels := rfl
@[simp] theorem State.setPending_sampleInterval (q : List Input) : (s.setPending q).sampleInterval = s.sampleInterval := rfl
@[simp] theorem State.setPending_ready (q : List Input) : (s.setPending q).ready = s.ready := rfl
@[simp] theorem State.setPending_errcode (q : List Input) : (s.setPending q).errcode = s.errcode := rfl
@[simp] theorem State.setPending_freqOut (q : List Input) : (s.setPending q).freqOut = s.freqOut := rfl
@[simp] theorem State.setPending_peakBin (q : List Input) : (s.setPending q).peakBin = s.peakBin := rfl
@[simp] theorem State.setPending_peakMag2 (q : List Input) : (s.setPending q).peakMag2 = s.peakMag2 := rfl
@[simp] theorem State.setPending_elapsed (q : List Input) : (s.setPending q).elapsed = s.elapsed := rfl
@[simp] theorem State.setPending_rb (q : List Input) : (s.setPending q).rb = s.rb := rfl
@[simp] theorem State.setPending_cur (q : List Input) : (s.setPending q).cur = s.cur := rfl
@[simp] theorem State.setPending_control (q : List Input) : (s.setPending q).control = s.control := rfl
@[simp] theorem State.setPending_scratch (q : List Input) : (s.setPending q).scratch = s.scratch := rfl
@[simp] theorem State.setPending_pending (q : List Input) : (s.setPending q).pending = q := rfl
@[simp] theorem State.setPending_responses (q : List Input) : (s.setPending q).responses = s.responses := rfl

/-! ### respond -/

@[simp] theorem State.respond_chSample (r : Response) : (s.respond r).chSample = s.chSample := rfl
@[simp] theorem State.respond_numChannels (r : Response) : (s.respond r).numChannels = s.numChannels := rfl
@[simp] theorem State.respond_sampleInterval (r : Response) : (s.respond r).sampleInterval = s.sampleInterval := rfl
@[simp] theorem State.respond_ready (r : Response) : (s.respond r).ready = s.ready := rfl
@[simp] theorem State.respond_errcode (r : Response) : (s.respond r).errcode = s.errcode := rfl
@[simp] theorem State.respond_freqOut (r : Response) : (s.respond r).freqOut = s.freqOut := rfl
@[simp] theorem State.respond_peakBin (r : Response) : (s.respond r).peakBin = s.peakBin := rfl
@[simp] theorem State.respond_peakMag2 (r : Response) : (s.respond r).peakMag2 = s.peakMag2 := rfl
@[simp] theorem State.respond_elapsed (r : Response) : (s.respond r).elapsed = s.elapsed := rfl
@[simp] theorem State.respond_rb (r : Response) : (s.respond r).rb = s.rb := rfl
@[simp] theorem State.respond_cur (r : Response) : (s.respond r).cur = s.cur := rfl
@[simp] theorem State.respond_control (r : Response) : (s.respond r).control = s.control := rfl
@[simp] theorem State.respond_scratch (r : Response) : (s.respond r).scratch = s.scratch := rfl
@[simp] theorem State.respond_pending (r : Response) : (s.respond r).pending = s.pending := rfl
@[simp] theorem State.respond_responses (r : Response) : (s.respond r).responses = s.responses ++ [r] := rfl

/-! ### reject -/

@[simp] theorem State.reject_chSample (e : BitVec 4) : (s.reject e).chSample = s.chSample := rfl
@[simp] theorem State.reject_numChannels (e : BitVec 4) : (s.reject e).numChannels = s.numChannels := rfl
@[simp] theorem State.reject_sampleInterval (e : BitVec 4) : (s.reject e).sampleInterval = s.sampleInterval := rfl
@[simp] theorem State.reject_ready (e : BitVec 4) : (s.reject e).ready = false := rfl
@[simp] theorem State.reject_errcode (e : BitVec 4) : (s.reject e).errcode = e := rfl
@[simp] theorem State.reject_freqOut (e : BitVec 4) : (s.reject e).freqOut = s.freqOut := rfl
@[simp] theorem State.reject_peakBin (e : BitVec 4) : (s.reject e).peakBin = s.peakBin := rfl
@[simp] theorem State.reject_peakMag2 (e : BitVec 4) : (s.reject e).peakMag2 = s.peakMag2 := rfl
@[simp] theorem State.reject_elapsed (e : BitVec 4) : (s.reject e).elapsed = s.elapsed := rfl
@[simp] theorem State.reject_rb (e : BitVec 4) : (s.reject e).rb = s.rb := rfl
@[simp] theorem State.reject_cur (e : BitVec 4) : (s.reject e).cur = s.cur := rfl
@[simp] theorem State.reject_control (e : BitVec 4) : (s.reject e).control = s.control := rfl
@[simp] theorem State.reject_scratch (e : BitVec 4) : (s.reject e).scratch = s.scratch := rfl
@[simp] theorem State.reject_pending (e : BitVec 4) : (s.reject e).pending = s.pending := rfl
@[simp] theorem State.reject_responses (e : BitVec 4) : (s.reject e).responses = s.responses := rfl

/-! ### accept -/

@[simp] theorem State.accept_chSample (r : Bool) : (s.accept r).chSample = s.chSample := rfl
@[simp] theorem State.accept_numChannels (r : Bool) : (s.accept r).numChannels = s.numChannels := rfl
@[simp] theorem State.accept_sampleInterval (r : Bool) : (s.accept r).sampleInterval = s.sampleInterval := rfl
@[simp] theorem State.accept_ready (r : Bool) : (s.accept r).ready = r := rfl
@[simp] theorem State.accept_errcode (r : Bool) : (s.accept r).errcode = 0#4 := rfl
@[simp] theorem State.accept_freqOut (r : Bool) : (s.accept r).freqOut = s.freqOut := rfl
@[simp] theorem State.accept_peakBin (r : Bool) : (s.accept r).peakBin = s.peakBin := rfl
@[simp] theorem State.accept_peakMag2 (r : Bool) : (s.accept r).peakMag2 = s.peakMag2 := rfl
@[simp] theorem State.accept_elapsed (r : Bool) : (s.accept r).elapsed = s.elapsed := rfl
@[simp] theorem State.accept_rb (r : Bool) : (s.accept r).rb = s.rb := rfl
@[simp] theorem State.accept_cur (r : Bool) : (s.accept r).cur = s.cur := rfl
@[simp] theorem State.accept_control (r : Bool) : (s.accept r).control = s.control := rfl
@[simp] theorem State.accept_scratch (r : Bool) : (s.accept r).scratch = s.scratch := rfl
@[simp] theorem State.accept_pending (r : Bool) : (s.accept r).pending = s.pending := rfl
@[simp] theorem State.accept_responses (r : Bool) : (s.accept r).responses = s.responses := rfl

/-! ### raiseBusError -/

@[simp] theorem State.raiseBusError_chSample : (s.raiseBusError).chSample = s.chSample := rfl
@[simp] theorem State.raiseBusError_numChannels : (s.raiseBusError).numChannels = s.numChannels := rfl
@[simp] theorem State.raiseBusError_sampleInterval : (s.raiseBusError).sampleInterval = s.sampleInterval := rfl
@[simp] theorem State.raiseBusError_ready : (s.raiseBusError).ready = s.ready := rfl
@[simp] theorem State.raiseBusError_errcode : (s.raiseBusError).errcode = s.errcode := rfl
@[simp] theorem State.raiseBusError_freqOut : (s.raiseBusError).freqOut = s.freqOut := rfl
@[simp] theorem State.raiseBusError_peakBin : (s.raiseBusError).peakBin = s.peakBin := rfl
@[simp] theorem State.raiseBusError_peakMag2 : (s.raiseBusError).peakMag2 = s.peakMag2 := rfl
@[simp] theorem State.raiseBusError_elapsed : (s.raiseBusError).elapsed = s.elapsed := rfl
@[simp] theorem State.raiseBusError_rb : (s.raiseBusError).rb = s.rb := rfl
@[simp] theorem State.raiseBusError_cur : (s.raiseBusError).cur = s.cur := rfl
@[simp] theorem State.raiseBusError_control : (s.raiseBusError).control = s.control := rfl
@[simp] theorem State.raiseBusError_scratch : (s.raiseBusError).scratch = s.scratch := rfl
@[simp] theorem State.raiseBusError_pending : (s.raiseBusError).pending = s.pending := rfl
@[simp] theorem State.raiseBusError_responses : (s.raiseBusError).responses = s.responses ++ [.busError] := rfl

/-! ### answer -/

@[simp] theorem State.answer_chSample (r : Register) : (s.answer r).chSample = s.chSample := rfl
@[simp] theorem State.answer_numChannels (r : Register) : (s.answer r).numChannels = s.numChannels := rfl
@[simp] theorem State.answer_sampleInterval (r : Register) : (s.answer r).sampleInterval = s.sampleInterval := rfl
@[simp] theorem State.answer_ready (r : Register) : (s.answer r).ready = s.ready := rfl
@[simp] theorem State.answer_errcode (r : Register) : (s.answer r).errcode = s.errcode := rfl
@[simp] theorem State.answer_freqOut (r : Register) : (s.answer r).freqOut = s.freqOut := rfl
@[simp] theorem State.answer_peakBin (r : Register) : (s.answer r).peakBin = s.peakBin := rfl
@[simp] theorem State.answer_peakMag2 (r : Register) : (s.answer r).peakMag2 = s.peakMag2 := rfl
@[simp] theorem State.answer_elapsed (r : Register) : (s.answer r).elapsed = s.elapsed := rfl
@[simp] theorem State.answer_rb (r : Register) : (s.answer r).rb = s.rb := rfl
@[simp] theorem State.answer_cur (r : Register) : (s.answer r).cur = s.cur := rfl
@[simp] theorem State.answer_control (r : Register) : (s.answer r).control = s.control := rfl
@[simp] theorem State.answer_scratch (r : Register) : (s.answer r).scratch = s.scratch := rfl
@[simp] theorem State.answer_pending (r : Register) : (s.answer r).pending = s.pending := rfl
@[simp] theorem State.answer_responses (r : Register) : (s.answer r).responses = s.responses ++ [.data (readRegister r s)] := rfl

/-! ### setSlot -/

@[simp] theorem State.setSlot_chSample (c : Channel) (i : Slot) (v : F16) : (s.setSlot c i v).chSample = s.chSample := rfl
@[simp] theorem State.setSlot_numChannels (c : Channel) (i : Slot) (v : F16) : (s.setSlot c i v).numChannels = s.numChannels := rfl
@[simp] theorem State.setSlot_sampleInterval (c : Channel) (i : Slot) (v : F16) : (s.setSlot c i v).sampleInterval = s.sampleInterval := rfl
@[simp] theorem State.setSlot_ready (c : Channel) (i : Slot) (v : F16) : (s.setSlot c i v).ready = s.ready := rfl
@[simp] theorem State.setSlot_errcode (c : Channel) (i : Slot) (v : F16) : (s.setSlot c i v).errcode = s.errcode := rfl
@[simp] theorem State.setSlot_freqOut (c : Channel) (i : Slot) (v : F16) : (s.setSlot c i v).freqOut = s.freqOut := rfl
@[simp] theorem State.setSlot_peakBin (c : Channel) (i : Slot) (v : F16) : (s.setSlot c i v).peakBin = s.peakBin := rfl
@[simp] theorem State.setSlot_peakMag2 (c : Channel) (i : Slot) (v : F16) : (s.setSlot c i v).peakMag2 = s.peakMag2 := rfl
@[simp] theorem State.setSlot_elapsed (c : Channel) (i : Slot) (v : F16) : (s.setSlot c i v).elapsed = s.elapsed := rfl
@[simp] theorem State.setSlot_rb (c : Channel) (i : Slot) (v : F16) : (s.setSlot c i v).rb = Memory.write (slotNumber c i) v s.rb := rfl
@[simp] theorem State.setSlot_cur (c : Channel) (i : Slot) (v : F16) : (s.setSlot c i v).cur = s.cur := rfl
@[simp] theorem State.setSlot_control (c : Channel) (i : Slot) (v : F16) : (s.setSlot c i v).control = s.control := rfl
@[simp] theorem State.setSlot_scratch (c : Channel) (i : Slot) (v : F16) : (s.setSlot c i v).scratch = s.scratch := rfl
@[simp] theorem State.setSlot_pending (c : Channel) (i : Slot) (v : F16) : (s.setSlot c i v).pending = s.pending := rfl
@[simp] theorem State.setSlot_responses (c : Channel) (i : Slot) (v : F16) : (s.setSlot c i v).responses = s.responses := rfl

/-! ### resetBlock -/

@[simp] theorem resetBlock_pending : (resetBlock s).pending = s.pending := rfl
@[simp] theorem resetBlock_responses : (resetBlock s).responses = s.responses := rfl
@[simp] theorem resetBlock_chSample : (resetBlock s).chSample = State.reset.chSample := rfl
@[simp] theorem resetBlock_numChannels : (resetBlock s).numChannels = State.reset.numChannels := rfl
@[simp] theorem resetBlock_sampleInterval : (resetBlock s).sampleInterval = State.reset.sampleInterval := rfl
@[simp] theorem resetBlock_ready : (resetBlock s).ready = State.reset.ready := rfl
@[simp] theorem resetBlock_errcode : (resetBlock s).errcode = State.reset.errcode := rfl
@[simp] theorem resetBlock_freqOut : (resetBlock s).freqOut = State.reset.freqOut := rfl
@[simp] theorem resetBlock_peakBin : (resetBlock s).peakBin = State.reset.peakBin := rfl
@[simp] theorem resetBlock_peakMag2 : (resetBlock s).peakMag2 = State.reset.peakMag2 := rfl
@[simp] theorem resetBlock_elapsed : (resetBlock s).elapsed = State.reset.elapsed := rfl
@[simp] theorem resetBlock_rb : (resetBlock s).rb = State.reset.rb := rfl
@[simp] theorem resetBlock_cur : (resetBlock s).cur = State.reset.cur := rfl
@[simp] theorem resetBlock_control : (resetBlock s).control = State.reset.control := rfl
@[simp] theorem resetBlock_scratch : (resetBlock s).scratch = State.reset.scratch := rfl

/-! ### The reset state -/

@[simp] theorem State.reset_numChannels : State.reset.numChannels = 0#32 := rfl
@[simp] theorem State.reset_sampleInterval : State.reset.sampleInterval = 0x0000#16 := rfl
@[simp] theorem State.reset_ready : State.reset.ready = false := rfl
@[simp] theorem State.reset_errcode : State.reset.errcode = 0#4 := rfl
@[simp] theorem State.reset_elapsed : State.reset.elapsed = 0x0000#16 := rfl
@[simp] theorem State.reset_rb : State.reset.rb = [] := rfl
@[simp] theorem State.reset_control : State.reset.control = .idle := rfl
@[simp] theorem State.reset_scratch : State.reset.scratch = Scratch.reset := rfl
@[simp] theorem State.reset_pending : State.reset.pending = [] := rfl
@[simp] theorem State.reset_responses : State.reset.responses = [] := rfl

end Sys2Proof.Machine
end

