-- ==== Sys2Proof/Laws/Memory.lean ====
section
/-! SUPPORT. The laws of the ring memory: a read after a write, the canonical form kept by every operation, and equal
contents are equal data (log 9). -/

namespace Sys2Proof.Machine

/-- Nothing below the first listed slot is listed. -/
theorem Memory.read_of_lt {lo i : Nat} {m : Memory} (h : Memory.wfFrom lo m = true) (hi : i < lo) :
    Memory.read m i = 0x0000#16 := by
  induction m generalizing lo with
  | nil => rfl
  | cons p m ih =>
    obtain ⟨k, v⟩ := p
    simp only [Memory.wfFrom, Bool.and_eq_true, decide_eq_true_eq] at h
    have hne : ¬ i = k := by omega
    simp only [Memory.read, if_neg hne]
    exact ih h.2 (by omega)

/-- A read of the slot just written gives the value written. -/
theorem Memory.read_write_same {lo i : Nat} {m : Memory} (v : F16) (h : Memory.wfFrom lo m = true) :
    Memory.read (Memory.write i v m) i = v := by
  induction m generalizing lo with
  | nil =>
    by_cases hv : v = 0x0000#16
    · simp [Memory.write, Memory.read, hv]
    · simp [Memory.write, Memory.read, hv]
  | cons p m ih =>
    obtain ⟨k, w⟩ := p
    have h' := h
    simp only [Memory.wfFrom, Bool.and_eq_true, decide_eq_true_eq] at h
    unfold Memory.write
    by_cases hlt : i < k
    · rw [if_pos hlt]
      by_cases hv : v = 0x0000#16
      · rw [if_pos hv, hv]
        have hne : ¬ i = k := by omega
        simp only [Memory.read, if_neg hne]
        exact Memory.read_of_lt h.2 (by omega)
      · rw [if_neg hv]
        simp [Memory.read]
    · rw [if_neg hlt]
      by_cases he : i = k
      · rw [if_pos he]
        by_cases hv : v = 0x0000#16
        · rw [if_pos hv, hv]
          exact Memory.read_of_lt h.2 (by omega)
        · rw [if_neg hv]
          simp [Memory.read]
      · rw [if_neg he]
        simp only [Memory.read, if_neg he]
        exact ih h.2

/-- A write leaves every other slot alone. -/
theorem Memory.read_write_other {i j : Nat} (v : F16) (m : Memory) (hij : j ≠ i) :
    Memory.read (Memory.write i v m) j = Memory.read m j := by
  induction m with
  | nil =>
    by_cases hv : v = 0x0000#16
    · simp [Memory.write, hv]
    · simp [Memory.write, Memory.read, hv, hij]
  | cons p m ih =>
    obtain ⟨k, w⟩ := p
    unfold Memory.write
    by_cases hlt : i < k
    · rw [if_pos hlt]
      by_cases hv : v = 0x0000#16
      · rw [if_pos hv]
      · rw [if_neg hv]
        conv_lhs => unfold Memory.read
        rw [if_neg hij]
    · rw [if_neg hlt]
      by_cases he : i = k
      · rw [if_pos he]
        have hjk : ¬ j = k := by omega
        by_cases hv : v = 0x0000#16
        · rw [if_pos hv]
          conv_rhs => unfold Memory.read
          rw [if_neg hjk]
        · rw [if_neg hv]
          conv_lhs => unfold Memory.read
          conv_rhs => unfold Memory.read
          rw [if_neg hij, if_neg hjk]
      · rw [if_neg he]
        simp only [Memory.read, ih]

/-- A smaller lower bound holds too. -/
theorem Memory.wfFrom_mono {lo lo' : Nat} {m : Memory} (hle : lo' ≤ lo) (h : Memory.wfFrom lo m = true) :
    Memory.wfFrom lo' m = true := by
  cases m with
  | nil => rfl
  | cons p m =>
    obtain ⟨k, v⟩ := p
    simp only [Memory.wfFrom, Bool.and_eq_true, decide_eq_true_eq] at h ⊢
    exact ⟨⟨⟨by omega, h.1.1.2⟩, h.1.2⟩, h.2⟩

/-- A write of a slot keeps the canonical form. -/
theorem Memory.wfFrom_write {lo i : Nat} {m : Memory} (v : F16) (hlo : lo ≤ i) (hi : i < 5000)
    (h : Memory.wfFrom lo m = true) : Memory.wfFrom lo (Memory.write i v m) = true := by
  induction m generalizing lo with
  | nil =>
    by_cases hv : v = 0x0000#16
    · simp [Memory.write, Memory.wfFrom, hv]
    · simp [Memory.write, Memory.wfFrom, hv, hlo, hi]
  | cons p m ih =>
    obtain ⟨k, w⟩ := p
    have h0 := h
    simp only [Memory.wfFrom, Bool.and_eq_true, decide_eq_true_eq] at h
    unfold Memory.write
    by_cases hlt : i < k
    · rw [if_pos hlt]
      by_cases hv : v = 0x0000#16
      · rw [if_pos hv]; exact h0
      · rw [if_neg hv]
        simp only [Memory.wfFrom, Bool.and_eq_true, decide_eq_true_eq]
        exact ⟨⟨⟨hlo, hi⟩, by simpa using hv⟩, ⟨⟨by omega, h.1.1.2⟩, h.1.2⟩, h.2⟩
    · rw [if_neg hlt]
      by_cases he : i = k
      · rw [if_pos he]
        by_cases hv : v = 0x0000#16
        · rw [if_pos hv]
          exact Memory.wfFrom_mono (by omega) h.2
        · rw [if_neg hv]
          simp only [Memory.wfFrom, Bool.and_eq_true, decide_eq_true_eq]
          exact ⟨⟨⟨hlo, hi⟩, by simpa using hv⟩, he ▸ h.2⟩
      · rw [if_neg he]
        simp only [Memory.wfFrom, Bool.and_eq_true, decide_eq_true_eq]
        exact ⟨h.1, ih (by omega) h.2⟩

/-- A write of a slot keeps the canonical form. -/
theorem Memory.wf_write {i : Nat} {m : Memory} (v : F16) (hi : i < 5000) (h : Memory.wf m = true) :
    Memory.wf (Memory.write i v m) = true := Memory.wfFrom_write v (Nat.zero_le i) hi h

/-- Dropping entries keeps the canonical form. -/
theorem Memory.wfFrom_filter {lo : Nat} {m : Memory} (p : Nat × F16 → Bool) (h : Memory.wfFrom lo m = true) :
    Memory.wfFrom lo (m.filter p) = true := by
  induction m generalizing lo with
  | nil => rfl
  | cons q m ih =>
    obtain ⟨k, v⟩ := q
    simp only [Memory.wfFrom, Bool.and_eq_true, decide_eq_true_eq] at h
    rw [List.filter_cons]
    split
    · simp only [Memory.wfFrom, Bool.and_eq_true, decide_eq_true_eq]
      exact ⟨h.1, ih h.2⟩
    · exact Memory.wfFrom_mono (by omega) (ih h.2)

/-- Clearing a range of slots keeps the canonical form. -/
theorem Memory.wf_clear {m : Memory} (base n : Nat) (h : Memory.wf m = true) :
    Memory.wf (Memory.clear base n m) = true := Memory.wfFrom_filter _ h

/-- Clearing a range gives +0 inside it and leaves the rest alone. -/
theorem Memory.read_clear (base n i : Nat) (m : Memory) :
    Memory.read (Memory.clear base n m) i =
      if base ≤ i ∧ i < base + n then 0x0000#16 else Memory.read m i := by
  induction m with
  | nil => simp [Memory.clear, Memory.read]
  | cons p m ih =>
    obtain ⟨k, v⟩ := p
    unfold Memory.clear at ih ⊢
    rw [List.filter_cons]
    by_cases hk : base ≤ k ∧ k < base + n
    · have hp : (!(decide (base ≤ k) && decide (k < base + n))) = false := by simp [hk.1, hk.2]
      rw [if_neg (by simp [hp]), ih]
      by_cases hi : base ≤ i ∧ i < base + n
      · simp [hi]
      · have hne : ¬ i = k := fun e => hi (e ▸ hk)
        simp only [if_neg hi, Memory.read, if_neg hne]
    · have hp : (!(decide (base ≤ k) && decide (k < base + n))) = true := by
        rw [Bool.not_eq_true']
        simpa [Bool.and_eq_false_iff, not_and_or] using hk
      rw [if_pos hp]
      simp only [Memory.read, ih]
      by_cases he : i = k
      · subst he; simp [hk]
      · simp [he]

/-- In canonical form the memory is its contents. -/
theorem Memory.ext_wfFrom {lo : Nat} {m m' : Memory} (h : Memory.wfFrom lo m = true) (h' : Memory.wfFrom lo m' = true)
    (hr : ∀ i, Memory.read m i = Memory.read m' i) : m = m' := by
  induction m generalizing lo m' with
  | nil =>
    cases m' with
    | nil => rfl
    | cons q m' =>
      obtain ⟨k, v⟩ := q
      simp only [Memory.wfFrom, Bool.and_eq_true, decide_eq_true_eq] at h'
      have := hr k
      simp [Memory.read] at this
      simp [← this] at h'
  | cons p m ih =>
    obtain ⟨k, v⟩ := p
    have h0 := h
    simp only [Memory.wfFrom, Bool.and_eq_true, decide_eq_true_eq] at h
    cases m' with
    | nil =>
      have := hr k
      simp [Memory.read] at this
      simp [this] at h
    | cons q m' =>
      obtain ⟨k', v'⟩ := q
      have h0' := h'
      simp only [Memory.wfFrom, Bool.and_eq_true, decide_eq_true_eq] at h'
      have hv : v ≠ 0x0000#16 := by simpa using h.1.2
      have hv' : v' ≠ 0x0000#16 := by simpa using h'.1.2
      have hk : k = k' := by
        rcases Nat.lt_trichotomy k k' with hlt | he | hgt
        · have := hr k
          rw [Memory.read_of_lt (lo := k') (m := (k', v') :: m')
            (by simp only [Memory.wfFrom, Bool.and_eq_true, decide_eq_true_eq]
                exact ⟨⟨⟨le_refl _, h'.1.1.2⟩, h'.1.2⟩, h'.2⟩) hlt] at this
          simp [Memory.read] at this
          exact absurd this hv
        · exact he
        · have := hr k'
          rw [Memory.read_of_lt (lo := k) (m := (k, v) :: m)
            (by simp only [Memory.wfFrom, Bool.and_eq_true, decide_eq_true_eq]
                exact ⟨⟨⟨le_refl _, h.1.1.2⟩, h.1.2⟩, h.2⟩) hgt] at this
          simp [Memory.read] at this
          exact absurd this.symm hv'
      subst hk
      have hvv : v = v' := by simpa [Memory.read] using hr k
      subst hvv
      have : m = m' := ih h.2 h'.2 fun i => by
        by_cases hi : i = k
        · subst hi
          rw [Memory.read_of_lt h.2 (Nat.lt_succ_self _), Memory.read_of_lt h'.2 (Nat.lt_succ_self _)]
        · simpa [Memory.read, hi] using hr i
      rw [this]

/-- Memories in canonical form with equal contents are equal. -/
theorem Memory.ext_wf {m m' : Memory} (h : Memory.wf m = true) (h' : Memory.wf m' = true)
    (hr : ∀ i, Memory.read m i = Memory.read m' i) : m = m' := Memory.ext_wfFrom h h' hr

/-- The memory after reset is in canonical form. -/
theorem Memory.wf_reset : Memory.wf State.reset.rb = true := rfl

/-- Slot numbers are below 5000. -/
theorem slotNumber_lt (c : Channel) (i : Slot) : slotNumber c i < 5000 := by
  have := c.isLt; have := i.isLt; unfold slotNumber; omega

/-- Different slots have different numbers. -/
theorem slotNumber_inj {c c' : Channel} {i i' : Slot} : slotNumber c i = slotNumber c' i' ↔ c = c' ∧ i = i' := by
  constructor
  · intro h
    have := i.isLt; have := i'.isLt
    unfold slotNumber at h
    exact ⟨Fin.ext (by omega), Fin.ext (by omega)⟩
  · rintro ⟨rfl, rfl⟩; rfl

end Sys2Proof.Machine
end

