-- ==== Sys2Proof/Laws/Ops.lean ====
section
/-! SUPPORT. What each shared operation can do, said once: the ring operations, the two error paths, and the folds over
channels. Proofs cite these and do not unfold the operations. -/

namespace Sys2Proof.Machine

/-! ### Slots -/

theorem State.setSlot_slot (s : State) (c c' : Channel) (i i' : Slot) (v : F16) (h : Memory.wf s.rb = true) :
    (s.setSlot c i v).slot c' i' = if c' = c ∧ i' = i then v else s.slot c' i' := by
  unfold State.slot
  rw [State.setSlot_rb]
  by_cases he : c' = c ∧ i' = i
  · rw [if_pos he, he.1, he.2]; exact Memory.read_write_same v h
  · rw [if_neg he]
    exact Memory.read_write_other v s.rb fun e => he (slotNumber_inj.mp e)

theorem State.setSlot_wf (s : State) (c : Channel) (i : Slot) (v : F16) (h : Memory.wf s.rb = true) :
    Memory.wf (s.setSlot c i v).rb = true := Memory.wf_write v (slotNumber_lt c i) h

@[simp] theorem State.setCur_slot (s : State) (c : Channel) (i : Slot) (c' : Channel) (i' : Slot) :
    (s.setCur c i).slot c' i' = s.slot c' i' := rfl

theorem State.setCur_get (s : State) (c c' : Channel) (i : Slot) :
    (s.setCur c i).cur[c'] = if c' = c then i else s.cur[c'] := by
  rw [State.setCur_cur]
  by_cases h : c' = c
  · subst h; simp
  · have hne : c.val ≠ c'.val := fun e => h (Fin.ext e.symm)
    simp [h, Vector.getElem_set_ne, hne]

/-! ### rb_push (41_ring_buffer.md R141) -/

/-- rb_push changes the ring memory and the cursors and nothing else. -/
theorem rbPush_eq (c : Channel) (v : F16) (s : State) :
    rbPush c v s = { s with rb := Memory.write (slotNumber c s.cur[c]) v s.rb,
                            cur := s.cur.set c.val (nextSlot s.cur[c]) c.isLt } := rfl

theorem rbPush_slot (c : Channel) (v : F16) (s : State) (h : Memory.wf s.rb = true) (c' : Channel) (i : Slot) :
    (rbPush c v s).slot c' i = if c' = c ∧ i = s.cur[c] then v else s.slot c' i := by
  unfold rbPush; rw [State.setCur_slot, State.setSlot_slot _ _ _ _ _ _ h]

theorem rbPush_cur (c : Channel) (v : F16) (s : State) (c' : Channel) :
    (rbPush c v s).cur[c'] = if c' = c then nextSlot s.cur[c] else s.cur[c'] := by
  unfold rbPush; rw [State.setCur_get]; rfl

theorem rbPush_wf (c : Channel) (v : F16) (s : State) (h : Memory.wf s.rb = true) :
    Memory.wf (rbPush c v s).rb = true := Memory.wf_write v (slotNumber_lt _ _) h

/-- rb_push as an update of two fields of the state. -/
theorem rbPush_frame (c : Channel) (v : F16) (s : State) :
    rbPush c v s = { s with rb := (rbPush c v s).rb, cur := (rbPush c v s).cur } := rfl

/-! ### rb_reset (41_ring_buffer.md R140) -/

theorem rbReset_slot (c : Channel) (s : State) (c' : Channel) (i : Slot) :
    (rbReset c s).slot c' i = if c' = c then 0x0000#16 else s.slot c' i := by
  have hi := i.isLt
  show Memory.read (Memory.clear (250 * c.val) 250 s.rb) (slotNumber c' i) = _
  rw [Memory.read_clear]
  by_cases h : c' = c
  · subst h; rw [if_pos (by unfold slotNumber; omega), if_pos rfl]
  · have hne : c'.val ≠ c.val := fun e => h (Fin.ext e)
    rw [if_neg (by unfold slotNumber; omega), if_neg h]; rfl

theorem rbReset_cur (c : Channel) (s : State) (c' : Channel) :
    (rbReset c s).cur[c'] = if c' = c then 0 else s.cur[c'] := by
  unfold rbReset; rw [State.setCur_get]; rfl

theorem rbReset_wf (c : Channel) (s : State) (h : Memory.wf s.rb = true) : Memory.wf (rbReset c s).rb = true :=
  Memory.wf_clear _ _ h

theorem rbReset_frame (c : Channel) (s : State) :
    rbReset c s = { s with rb := (rbReset c s).rb, cur := (rbReset c s).cur } := rfl

/-! ### Folds over channels -/

/-- A property every channel's operation keeps holds after the fold. -/
theorem foldl_keeps {α σ : Type} (P : σ → Prop) (f : σ → α → σ) (hf : ∀ t a, P t → P (f t a)) :
    ∀ (l : List α) (s : σ), P s → P (l.foldl f s)
  | [], _, h => h
  | a :: l, s, h => foldl_keeps P f hf l (f s a) (hf s a h)

/-- The state `s` with only the ring memory and the cursors of `t`. -/
def State.withRings (s t : State) : State := { s with rb := t.rb, cur := t.cur }

/-- Updates of the rings only compose. -/
theorem State.withRings_trans {s t u : State} (h : t = s.withRings t) (h' : u = t.withRings u) : u = s.withRings u := by
  conv_lhs => rw [h', h]
  rfl

theorem rbPush_withRings (c : Channel) (v : F16) (s : State) : rbPush c v s = s.withRings (rbPush c v s) := rfl

theorem rbReset_withRings (c : Channel) (s : State) : rbReset c s = s.withRings (rbReset c s) := rfl

/-- The ingest changes the ring memory and the cursors and nothing else. -/
theorem ingest_frame (nc : Word) (s : State) : ingest nc s = s.withRings (ingest nc s) :=
  foldl_keeps (fun t => t = s.withRings t) _ (fun t c h => State.withRings_trans h (rbPush_withRings c _ t)) _ _ rfl

@[simp] theorem ingest_numChannels (nc : Word) (s : State) : (ingest nc s).numChannels = s.numChannels :=
  (congrArg State.numChannels (ingest_frame nc s)).trans rfl

@[simp] theorem ingest_sampleInterval (nc : Word) (s : State) : (ingest nc s).sampleInterval = s.sampleInterval :=
  (congrArg State.sampleInterval (ingest_frame nc s)).trans rfl

@[simp] theorem ingest_elapsed (nc : Word) (s : State) : (ingest nc s).elapsed = s.elapsed :=
  (congrArg State.elapsed (ingest_frame nc s)).trans rfl

/-- The reset of every ring changes the ring memory and the cursors and nothing else. -/
theorem rbResetAll_frame (s : State) : rbResetAll s = s.withRings (rbResetAll s) :=
  foldl_keeps (fun t => t = s.withRings t) _ (fun t c h => State.withRings_trans h (rbReset_withRings c t)) _ _ rfl

theorem ingest_wf (nc : Word) (s : State) (h : Memory.wf s.rb = true) : Memory.wf (ingest nc s).rb = true := by
  unfold ingest
  exact foldl_keeps (fun t : State => Memory.wf t.rb = true) _ (fun t c ht => rbPush_wf c _ t ht) _ _ h

theorem rbResetAll_wf (s : State) (h : Memory.wf s.rb = true) : Memory.wf (rbResetAll s).rb = true := by
  unfold rbResetAll
  exact foldl_keeps (fun t : State => Memory.wf t.rb = true) _ (fun t c ht => rbReset_wf c t ht) _ _ h

theorem mem_activeChannels (nc : Word) (c : Channel) : c ∈ activeChannels nc ↔ c.val < nc.toNat := by
  simp [activeChannels]

/-! ### Errors (60_exceptions.md R271, R273) -/

/-- reject(code) writes the two status fields and nothing else. -/
theorem State.reject_eq (s : State) (code : BitVec 4) :
    s.reject code = { s with ready := false, errcode := code } := rfl

/-- A BUS_ERROR response changes nothing but what the host has received. -/
theorem State.raiseBusError_eq (s : State) :
    s.raiseBusError = { s with responses := s.responses ++ [.busError] } := rfl

/-- A read changes nothing but what the host has received. -/
theorem State.answer_eq (s : State) (r : Register) :
    s.answer r = { s with responses := s.responses ++ [.data (readRegister r s)] } := rfl

/-! ### The working memories -/

/-- The state `s` with only the working memories of `t`. -/
def State.withScratch (s t : State) : State := { s with scratch := t.scratch }

theorem channelSpectrum_frame (c : Channel) (s : State) :
    channelSpectrum c s = s.withScratch (channelSpectrum c s) := rfl

/-- Updates of the working memories only compose. -/
theorem State.withScratch_trans {s t u : State} (h : t = s.withScratch t) (h' : u = t.withScratch u) :
    u = s.withScratch u := by
  conv_lhs => rw [h', h]
  rfl

/-- The spectral sum changes the working memories and nothing else. -/
theorem spectralSum_frame (nc : Word) (s : State) : spectralSum nc s = s.withScratch (spectralSum nc s) :=
  foldl_keeps (fun t => t = s.withScratch t) _
    (fun t c h => State.withScratch_trans h (channelSpectrum_frame c t)) _ _ rfl

/-- The pass changes the result registers and the working memories and nothing else. -/
theorem computationPass_frame (nc : Word) (si : F16) (s : State) :
    computationPass nc si s =
      (s.withScratch (computationPass nc si s)).setResult (computationPass nc si s).freqOut
        (computationPass nc si s).peakBin (computationPass nc si s).peakMag2 := by
  unfold computationPass commitPeak loadMag
  conv_lhs => rw [spectralSum_frame]
  rfl

@[simp] theorem computationPass_numChannels (nc : Word) (si : F16) (s : State) :
    (computationPass nc si s).numChannels = s.numChannels :=
  (congrArg State.numChannels (computationPass_frame nc si s)).trans rfl

@[simp] theorem computationPass_sampleInterval (nc : Word) (si : F16) (s : State) :
    (computationPass nc si s).sampleInterval = s.sampleInterval :=
  (congrArg State.sampleInterval (computationPass_frame nc si s)).trans rfl

@[simp] theorem computationPass_elapsed (nc : Word) (si : F16) (s : State) :
    (computationPass nc si s).elapsed = s.elapsed :=
  (congrArg State.elapsed (computationPass_frame nc si s)).trans rfl

end Sys2Proof.Machine
end

