-- ==== Sys2Proof/Laws/PerInstr.lean ====
section
/-! SUPPORT. Facts about every instruction as syntax, one lemma per constructor. -/

namespace Sys2Proof.Laws.WholeWord

/-- An instruction is encoded as one whole 32-bit access, and a read carries no data (20_memory.md R63, 30_encoding.md
R95, R96). -/
def Statement (i : Instr) : Prop := (encode i).size = 4 ∧ ((encode i).dir = .read → (encode i).data = 0#32)

theorem nop : Statement .nop := ⟨rfl, nofun⟩
theorem init : Statement .init := ⟨rfl, nofun⟩
theorem step : Statement .step := ⟨rfl, nofun⟩
theorem wrCmd (w : Word) : Statement (.wrCmd w) := ⟨rfl, nofun⟩
theorem wrNumChannels (w : Word) : Statement (.wrNumChannels w) := ⟨rfl, nofun⟩
theorem wrSampleInterval (w : Word) : Statement (.wrSampleInterval w) := ⟨rfl, nofun⟩
theorem wrChSample (c : Channel) (w : Word) : Statement (.wrChSample c w) := ⟨rfl, nofun⟩
theorem wrRoOrReserved (off : Offset) (w : Word) : Statement (.wrRoOrReserved off w) := ⟨rfl, nofun⟩
theorem rdId : Statement .rdId := ⟨rfl, fun _ => rfl⟩
theorem rdConfig : Statement .rdConfig := ⟨rfl, fun _ => rfl⟩
theorem rdCmd : Statement .rdCmd := ⟨rfl, fun _ => rfl⟩
theorem rdStatus : Statement .rdStatus := ⟨rfl, fun _ => rfl⟩
theorem rdNumChannels : Statement .rdNumChannels := ⟨rfl, fun _ => rfl⟩
theorem rdSampleInterval : Statement .rdSampleInterval := ⟨rfl, fun _ => rfl⟩
theorem rdFreqOut : Statement .rdFreqOut := ⟨rfl, fun _ => rfl⟩
theorem rdPeakBin : Statement .rdPeakBin := ⟨rfl, fun _ => rfl⟩
theorem rdPeakMag2 : Statement .rdPeakMag2 := ⟨rfl, fun _ => rfl⟩
theorem rdElapsed : Statement .rdElapsed := ⟨rfl, fun _ => rfl⟩
theorem rdChSample (c : Channel) : Statement (.rdChSample c) := ⟨rfl, fun _ => rfl⟩
theorem rdRbCursor (c : Channel) : Statement (.rdRbCursor c) := ⟨rfl, fun _ => rfl⟩
theorem rdRbSnap (c : Channel) (j : Slot) : Statement (.rdRbSnap c j) := ⟨rfl, fun _ => rfl⟩
theorem rdReserved (off : Offset) : Statement (.rdReserved off) := ⟨rfl, fun _ => rfl⟩

end Sys2Proof.Laws.WholeWord
end

