-- ==== Sys2Proof/Laws/Step.lean ====
section
/-! SUPPORT. What one step can do, said once. -/

namespace Sys2Proof.Machine

/-- The cases of a step that answers a next state. -/
theorem step_cases {s t : State} (h : step s = .next t) :
    (s.pending = [] ∧ t = s) ∨
    (∃ rest, s.pending = .reset :: rest ∧ t = resetBlock (s.setPending rest)) ∨
    (∃ a rest, s.pending = .access a :: rest ∧ s.control = .compute ∧ t = s) ∨
    (∃ a rest i, s.pending = .access a :: rest ∧ s.control = .idle ∧ decode a = .ok i ∧
      exec i (s.setPending rest) = .next t) ∨
    (∃ a rest, s.pending = .access a :: rest ∧ s.control = .idle ∧ decode a = .error .notWholeWord ∧
      t = (s.setPending rest).raiseBusError) := by
  unfold step at h
  split at h
  · exact .inl ⟨‹_›, by cases h; rfl⟩
  · exact .inr (.inl ⟨_, ‹_›, by cases h; rfl⟩)
  · split at h
    · exact .inr (.inr (.inl ⟨_, _, ‹_›, ‹_›, by cases h; rfl⟩))
    · split at h
      · exact .inr (.inr (.inr (.inl ⟨_, _, _, ‹_›, ‹_›, ‹_›, h⟩)))
      · rename_i e hd
        cases e
        exact .inr (.inr (.inr (.inr ⟨_, _, ‹_›, ‹_›, hd, by cases h; rfl⟩)))

/-- The three ways a STEP command ends: rejected, the gate closed, or a pass (42_commands.md R170). -/
theorem stepEffect_cases (s : State) :
    (∃ code, stepError s.numChannels s.sampleInterval = some code ∧ stepEffect s = s.reject code) ∨
    (stepError s.numChannels s.sampleInterval = none ∧
      gateClosed (accumulateElapsed s.sampleInterval (ingest s.numChannels s)) = true ∧
      stepEffect s = (accumulateElapsed s.sampleInterval (ingest s.numChannels s)).accept false) ∨
    (stepError s.numChannels s.sampleInterval = none ∧
      gateClosed (accumulateElapsed s.sampleInterval (ingest s.numChannels s)) = false ∧
      stepEffect s = (computationPass s.numChannels s.sampleInterval
        (subtractInterval (accumulateElapsed s.sampleInterval (ingest s.numChannels s)))).accept true) := by
  unfold stepEffect stepAccepted gateEffect
  cases hE : stepError s.numChannels s.sampleInterval with
  | some code => exact .inl ⟨code, rfl, rfl⟩
  | none =>
    right
    cases hg : gateClosed (accumulateElapsed s.sampleInterval (ingest s.numChannels s)) with
    | true => exact .inl ⟨rfl, rfl, by simp⟩
    | false => exact .inr ⟨rfl, rfl, by simp⟩

/-- A write to CMD runs the command of its word (42_commands.md R167). -/
theorem execWrCmd_cases (w : Word) (s : State) :
    (w = 0#32 ∧ execWrCmd w s = execNop s) ∨ (w = 1#32 ∧ execWrCmd w s = execInit s) ∨
    (w = 2#32 ∧ execWrCmd w s = execStep s) ∨
    (w ≠ 0#32 ∧ w ≠ 1#32 ∧ w ≠ 2#32 ∧ execWrCmd w s = badCommand s) := by
  unfold execWrCmd
  by_cases h0 : w = 0#32
  · exact .inl ⟨h0, by rw [if_pos h0]; rfl⟩
  · by_cases h1 : w = 1#32
    · exact .inr (.inl ⟨h1, by rw [if_neg h0, if_pos h1]; rfl⟩)
    · by_cases h2 : w = 2#32
      · exact .inr (.inr (.inl ⟨h2, by rw [if_neg h0, if_neg h1, if_pos h2]; rfl⟩))
      · exact .inr (.inr (.inr ⟨h0, h1, h2, by rw [if_neg h0, if_neg h1, if_neg h2]⟩))

/-- A row of STEP commands goes on from the state the first one answers. -/
theorem stepCommands_succ {n : Nat} {s t : State} (h : exec .step s = .next t) :
    stepCommands (n + 1) s = stepCommands n t := by rw [stepCommands, h]

/-- STEP leaves the frame's channel count and interval as they are (42_commands.md R171). -/
theorem stepEffect_frame (s : State) :
    (stepEffect s).numChannels = s.numChannels ∧ (stepEffect s).sampleInterval = s.sampleInterval := by
  rcases stepEffect_cases s with ⟨code, -, h⟩ | ⟨-, -, h⟩ | ⟨-, -, h⟩ <;> rw [h] <;>
    simp [State.reject, State.accept, accumulateElapsed, subtractInterval]

end Sys2Proof.Machine
end

