-- ==== Sys2Proof/Laws/Transform.lean ====
section
/-! SUPPORT. The sizes of the working memories through the datapath (10_state.md R37). -/

namespace Sys2Proof.Machine

theorem packPairs_length : ∀ (n : Nat) (x : List F16), x.length = 2 * n → (packPairs x).length = n
  | 0, [], _ => rfl
  | 0, _ :: _, h => by simp at h
  | n + 1, [], h => by simp at h
  | n + 1, [_], h => by simp at h; omega
  | n + 1, _ :: _ :: x, h => by
    simp only [List.length_cons] at h
    simp only [packPairs, List.length_cons, packPairs_length n x (by omega)]

@[simp] theorem bitReverse_length (z : List Complex16) : (bitReverse z).length = 512 := by simp [bitReverse]

@[simp] theorem stageTwiddles_length (h st : Nat) : (stageTwiddles h st).length = h := by simp [stageTwiddles]

theorem blockButterflies_length {h : Nat} {tws ps qs : List Complex16} (ht : tws.length = h) (hp : ps.length = h)
    (hq : qs.length = h) : (blockButterflies tws ps qs).length = 2 * h := by
  simp [blockButterflies, ht, hp, hq]; omega

theorem stageBlocks_length {h : Nat} {tws : List Complex16} (ht : tws.length = h) :
    ∀ (blocks : Nat) (a : List Complex16), a.length = blocks * (2 * h) →
      (stageBlocks h tws blocks a).length = blocks * (2 * h)
  | 0, _, _ => by simp [stageBlocks]
  | blocks + 1, a, ha => by
    have ha' : a.length = blocks * (2 * h) + 2 * h := by rw [ha]; ring
    have hb : (blockButterflies tws (a.take h) ((a.drop h).take h)).length = 2 * h :=
      blockButterflies_length ht (by rw [List.length_take]; omega)
        (by rw [List.length_take, List.length_drop]; omega)
    have hr := stageBlocks_length ht blocks (a.drop (2 * h)) (by rw [List.length_drop]; omega)
    rw [stageBlocks, List.length_append, hb, hr]; ring

theorem stage_length {s : Nat} (hs : 1 ≤ s ∧ s ≤ 9) {a : List Complex16} (ha : a.length = 512) :
    (stage s a).length = 512 := by
  have key : 512 / 2 ^ s * (2 * (2 ^ s / 2)) = 512 := by
    obtain ⟨h1, h9⟩ := hs
    interval_cases s <;> rfl
  unfold stage
  rw [stageBlocks_length (stageTwiddles_length _ _) _ _ (by rw [ha, key]), key]

theorem flatMap_length {α β : Type} (n : Nat) (f : α → List β) (hf : ∀ a, (f a).length = n) :
    ∀ l : List α, (l.flatMap f).length = l.length * n
  | [] => by rw [List.flatMap_nil, List.length_nil, List.length_nil, Nat.zero_mul]
  | a :: l => by
    rw [List.flatMap_cons, List.length_append, hf, flatMap_length n f hf l, List.length_cons]; ring

@[simp] theorem split_length (z : List Complex16) : (split z).length = 1024 := by
  unfold split
  rw [List.length_append, flatMap_length 2 _ (fun _ => rfl), List.length_range']
  rfl

@[simp] theorem refTransform_length (td : List F16) : (refTransform td).length = 1024 := by simp [refTransform]

@[simp] theorem rbSnapshot_length (c : Channel) (s : State) : (rbSnapshot c s).length = 250 := by simp [rbSnapshot]

theorem taper_length {snap : List F16} (h : snap.length = 250) : (taper snap).length = 1024 := by
  unfold taper
  rw [List.length_append, List.length_zipWith, List.length_replicate, List.length_map, List.length_range, h]
  rfl

theorem magnitudes_length : ∀ (n : Nat) (acc : List F16), acc.length = 2 * n → (magnitudes acc).length = n
  | 0, [], _ => rfl
  | 0, _ :: _, h => by simp at h
  | n + 1, [], h => by simp at h
  | n + 1, [_], h => by simp at h; omega
  | n + 1, _ :: _ :: acc, h => by
    simp only [List.length_cons] at h
    simp only [magnitudes, List.length_cons, magnitudes_length n acc (by omega)]

end Sys2Proof.Machine
end

