-- ==== Sys2Proof/Tests/Slice0.lean ====
section
/-! SUPPORT. The model's own tests: the checks of WellFormed, every constructor's decoding from a word written out from
the spec, one or two results per instruction taken from the spec's vectors (95_test_vectors.md), and for every statement
with hypotheses a witness that meets them, at the ends of the ranges its clauses name. -/

namespace Sys2Proof.Tests

open Sys2Proof Sys2Proof.Machine

/-! ### WellFormed refuses one ill-formed term for each check -/

theorem test_wf_refuses_wrCmd_nop : (Instr.wrCmd 0).wellFormed = false := by decide
theorem test_wf_refuses_wrCmd_init : (Instr.wrCmd 1).wellFormed = false := by decide
theorem test_wf_refuses_wrCmd_step : (Instr.wrCmd 2).wellFormed = false := by decide
theorem test_wf_refuses_write_of_writable :
    [0x0008#15, 0x0010#15, 0x0014#15, 0x0080#15, 0x00CC#15].all (fun o => !(Instr.wrRoOrReserved o 0).wellFormed) = true := by
  decide
theorem test_wf_refuses_read_of_register :
    [0x0000#15, 0x0024#15, 0x0080#15, 0x00CC#15, 0x0100#15, 0x014C#15, 0x1000#15, 0x13E4#15, 0x5FE4#15].all
      (fun o => !(Instr.rdReserved o).wellFormed) = true := by decide

/-! ### Decoding, each word written out from the register map R80, the CMD words R85 and the window fields R92 -/

theorem test_decode_nop : decode ⟨.write, 4, 0x0008#15, 0x00000000#32⟩ = .ok .nop := by rfl
theorem test_decode_init : decode ⟨.write, 4, 0x0008#15, 0x00000001#32⟩ = .ok .init := by rfl
theorem test_decode_step : decode ⟨.write, 4, 0x0008#15, 0x00000002#32⟩ = .ok .step := by rfl
theorem test_decode_wrCmd : decode ⟨.write, 4, 0x0008#15, 0x80000002#32⟩ = .ok (.wrCmd 0x80000002) := by rfl
theorem test_decode_wrNumChannels : decode ⟨.write, 4, 0x0010#15, 0x00000015#32⟩ = .ok (.wrNumChannels 0x15) := by rfl
theorem test_decode_wrSampleInterval : decode ⟨.write, 4, 0x0014#15, 0x0000291F#32⟩ = .ok (.wrSampleInterval 0x291F) := by rfl
theorem test_decode_wrChSample : decode ⟨.write, 4, 0x00CC#15, 0xFFFF3C00#32⟩ = .ok (.wrChSample 19 0xFFFF3C00) := by rfl
theorem test_decode_wrRoOrReserved : decode ⟨.write, 4, 0x0018#15, 0x00000005#32⟩ = .ok (.wrRoOrReserved 0x0018 5) := by rfl
theorem test_decode_rdId : decode ⟨.read, 4, 0x0000#15, 0#32⟩ = .ok .rdId := by rfl
theorem test_decode_rdConfig : decode ⟨.read, 4, 0x0004#15, 0#32⟩ = .ok .rdConfig := by rfl
theorem test_decode_rdCmd : decode ⟨.read, 4, 0x0008#15, 0#32⟩ = .ok .rdCmd := by rfl
theorem test_decode_rdStatus : decode ⟨.read, 4, 0x000C#15, 0#32⟩ = .ok .rdStatus := by rfl
theorem test_decode_rdNumChannels : decode ⟨.read, 4, 0x0010#15, 0#32⟩ = .ok .rdNumChannels := by rfl
theorem test_decode_rdSampleInterval : decode ⟨.read, 4, 0x0014#15, 0#32⟩ = .ok .rdSampleInterval := by rfl
theorem test_decode_rdFreqOut : decode ⟨.read, 4, 0x0018#15, 0#32⟩ = .ok .rdFreqOut := by rfl
theorem test_decode_rdPeakBin : decode ⟨.read, 4, 0x001C#15, 0#32⟩ = .ok .rdPeakBin := by rfl
theorem test_decode_rdPeakMag2 : decode ⟨.read, 4, 0x0020#15, 0#32⟩ = .ok .rdPeakMag2 := by rfl
theorem test_decode_rdElapsed : decode ⟨.read, 4, 0x0024#15, 0#32⟩ = .ok .rdElapsed := by rfl
theorem test_decode_rdChSample : decode ⟨.read, 4, 0x0084#15, 0#32⟩ = .ok (.rdChSample 1) := by rfl
theorem test_decode_rdRbCursor : decode ⟨.read, 4, 0x0104#15, 0#32⟩ = .ok (.rdRbCursor 1) := by rfl
theorem test_decode_rdRbSnap : decode ⟨.read, 4, 0x17E4#15, 0#32⟩ = .ok (.rdRbSnap 1 249) := by rfl
theorem test_decode_rdReserved : decode ⟨.read, 4, 0x13E8#15, 0#32⟩ = .ok (.rdReserved 0x13E8) := by rfl
theorem test_decode_misaligned : decode ⟨.read, 4, 0x0012#15, 0#32⟩ = .ok (.rdReserved 0x0012) := by rfl
theorem test_decode_half_word : decode ⟨.read, 2, 0x0000#15, 0#32⟩ = .error .notWholeWord := by rfl
theorem test_table_word_step : decodeTableWord 32 2 = some .step := by rfl
theorem test_table_word_read : decodeTableWord 16 0x1000 = some (.rdRbSnap 0 0) := by rfl
theorem test_table_word_write : decodeTableWord 16 0x8080 = some (.wrChSample 0 0) := by rfl
theorem test_fetch_word_runs : step (State.reset.withFetchWord 32 1) = exec .init State.reset := by rfl

/-! ### binary16 vectors (95_test_vectors.md section 3) -/

theorem test_add16_vectors :
    [(0x3C00, 0x3C00, 0x4000),
     (0x0000, 0x8000, 0x0000),
     (0x8000, 0x8000, 0x8000),
     (0x7BFF, 0x7BFF, 0x7C00),
     (0x7BFF, 0x4C00, 0x7C00),
     (0x7C00, 0xFC00, 0x7E00),
     (0x3C00, 0x1000, 0x3C00),
     (0x3C00, 0x1001, 0x3C01),
     (0x3C01, 0x1000, 0x3C02),
     (0x0001, 0x8001, 0x0000),
     (0x0400, 0x8001, 0x03FF)].all
      (fun v : F16 × F16 × F16 => add16 v.1 v.2.1 == v.2.2) = true := by decide
theorem test_sub16_vectors :
    [(0x3C00, 0x3C00, 0x0000),
     (0x7C00, 0x3C00, 0x7C00)].all
      (fun v : F16 × F16 × F16 => sub16 v.1 v.2.1 == v.2.2) = true := by decide
theorem test_mul16_vectors :
    [(0x0001, 0x3800, 0x0000),
     (0x0003, 0x3800, 0x0002),
     (0x0401, 0x3800, 0x0200),
     (0x0400, 0x3800, 0x0200),
     (0x0000, 0x7C00, 0x7E00),
     (0x8000, 0x3C00, 0x8000),
     (0x5BFF, 0x5BFF, 0x7BFE),
     (0x5C00, 0x5C00, 0x7C00),
     (0x7E00, 0x0000, 0x7E00),
     (0x3555, 0x4200, 0x3C00)].all
      (fun v : F16 × F16 × F16 => mul16 v.1 v.2.1 == v.2.2) = true := by decide
theorem test_div16_vectors :
    [(0x0000, 0x0000, 0x7E00),
     (0x3C00, 0x0000, 0x7C00),
     (0x3C00, 0x8000, 0xFC00),
     (0x3C00, 0x7C00, 0x0000),
     (0x3C00, 0x4200, 0x3555),
     (0x6400, 0x6400, 0x3C00)].all
      (fun v : F16 × F16 × F16 => div16 v.1 v.2.1 == v.2.2) = true := by decide
/-- R196 (c) with si = 0x3E00: 0x63FD, the remainder after STEP 2045, leads to 0x6400, and so does 0x63FE. -/
theorem test_large_interval_stagnates :
    (add16 0x63FD 0x3E00, sub16 0x6400 one16, add16 0x63FE 0x3E00) = (0x6400#16, 0x63FE#16, 0x6400#16) := by decide
theorem test_lt16_vectors :
    (lt16 0x7E00 0x3C00, lt16 0x3C00 0x7E00, gt16 0x8000 0, lt16 0x8000 0, lt16 0xFC00 0xFBFF, lt16 0x7BFF 0x7C00,
      lt16 0x8001 0) = (false, false, false, false, true, true, true) := by decide
theorem test_cvt16_vectors :
    (cvt16 139, cvt16 511, cvt16 1024, cvt16 2049, cvt16 2051) =
      (0x5858#16, 0x5FFC#16, 0x6400#16, 0x6800#16, 0x6802#16) := by decide
theorem test_neg16_of_nan : neg16 0x7E00 = 0xFE00#16 := by decide

/-! ### Taper, magnitude, peak, frequency (sections 5 and 6) -/

theorem test_taper_vectors :
    (mul16 0x3C00 (hann 1), mul16 0x4000 (hann 249), mul16 0xBC00 (hann 125), mul16 0x7C00 (hann 0), mul16 0x0400 (hann 1)) =
      (0x009E#16, 0x3BA8#16, 0xB07B#16, 0x7E00#16, 0x0000#16) := by decide
theorem test_hann_rom : (hann 256, hann 511, hann 768, hann 1023) = (0x3800#16, 0x3C00#16, 0x3800#16, 0x009E#16) := by
  decide
theorem test_twiddle_rom : (cos1024 256, sin1024 0, cos1024 384, sin1024 1) = (0x0000#16, 0x0000#16, 0xB9A8#16, 0x1E48#16) := by
  decide
theorem test_magnitude_vectors :
    (magSquared 0x4200 0x4400, magSquared 0x5BFF 0, magSquared 0x5A00 0x5A00, magSquared 0xFC00 0, magSquared 0x8000 0x8000) =
      (0x4E40#16, 0x7BFE#16, 0x7C00#16, 0x7C00#16, 0x0000#16) := by decide
theorem test_peak_tie : peak [0, 0x3C00, 0, 0x3C00] = (1, 0x3C00#16) := by decide
theorem test_peak_nan : (peak [0x7E00, 0x4000], peak [0, 0x7E00, 0x4000]) = ((0, 0x7E00#16), (2, 0x4000#16)) := by
  decide
theorem test_frequency_vectors :
    (frequency 139 0x291F, frequency 511 0x291F, frequency 100 0x5400, frequency 100 0x53FF, frequency 3 1, frequency 4 1) =
      (0x42C9#16, 0x4A3D#16, 0x0000#16, 0x1641#16, 0x7A00#16, 0x7C00#16) := by decide
theorem test_rev9 : (rev9 1, rev9 2, rev9 3) = (256, 128, 384) := by decide
/-- Section 5, the row TD[249] = 37A8: on the way to Z[0] no butterfly changes the value, since every other value is +0, so
Z[0] is (+0, 37A8), and the split gives words 0 and 1. -/
theorem test_split_one_taper_value :
    (butterflyAdd (zero16, zero16) (twiddle (cos1024 0, sin1024 0) (0x0000, 0x37A8)), splitZero (0x0000, 0x37A8)) =
      ((0x0000#16, 0x37A8#16), [0x37A8#16, 0xB7A8#16]) := by decide

/-! ### One step of each instruction (sections 8 and 9, and the rules' own examples) -/

/-- The fields a test looks at, after an instruction. -/
def after {α : Type} (i : Instr) (s : State) (f : State → α) : Option α :=
  match exec i s with
  | .next t => some (f t)
  | .fault _ => none
  | .refused _ => none

/-- A state with a frame staged. -/
def staged (nc : Word) (si : F16) : State := { State.reset with numChannels := nc, sampleInterval := si }

theorem test_nop_keeps_status :
    after .nop { State.reset with errcode := 1 } (fun t => (t.ready, t.errcode, t.responses)) = some (false, 1#4, [.ok]) := by
  decide
theorem test_init_clears :
    after .init { staged 3 0x3C00 with elapsed := 0x3BAF, rb := [(5, 0x3C00#16)], ready := true, peakBin := 9 }
      (fun t => (t.elapsed, t.rb, t.ready, t.peakBin, t.numChannels)) = some (0#16, [], false, 0#9, 3#32) := by decide
theorem test_step_too_many_channels :
    after .step (staged 21 0) (fun t => statusWord t.ready t.errcode) = some 0x00000200#32 := by decide
theorem test_step_bad_interval :
    [0x0000#16, 0x8000#16, 0xBC00#16, 0xFC00#16, 0x7E00#16].all
      (fun si => after .step (staged 20 si) (fun t => (statusWord t.ready t.errcode, t.elapsed)) == some (0x300#32, 0#16)) =
      true := by decide
theorem test_step_closed_gate :
    after .step { staged 1 0x291F with elapsed := 0x3B5D, chSample := Vector.replicate 20 0x3C00#16 }
      (fun t => (t.elapsed, t.ready, t.rb, t.cur[(0 : Fin 20)], t.cur[(1 : Fin 20)])) =
      some (0x3BAF#16, false, [(0, 0x3C00#16)], 1, 0) := by decide
theorem test_step_pass_without_channels :
    after .step { staged 0 0x3C00 with freqOut := 0x3C00, peakBin := 7 }
      (fun t => (t.elapsed, statusWord t.ready t.errcode, t.freqOut, t.peakBin, t.peakMag2)) =
      some (0#16, 1#32, 0#16, 0#9, 0#16) := by decide +kernel
theorem test_wrCmd_bad : after (.wrCmd 0x12) State.reset (fun t => statusWord t.ready t.errcode) = some 0x100#32 := by decide
theorem test_wrNumChannels : after (.wrNumChannels 0x15) State.reset (·.numChannels) = some 0x15#32 := by decide
theorem test_wrSampleInterval : after (.wrSampleInterval 0xFFFF3C00) State.reset (·.sampleInterval) = some 0x3C00#16 := by
  decide
theorem test_wrChSample :
    after (.wrChSample 1 0xFFFF3C00) State.reset (fun t => (t.chSample[(1 : Fin 20)], t.chSample[(2 : Fin 20)], t.rb)) =
      some (0x3C00#16, 0#16, []) := by decide
theorem test_wrRoOrReserved : after (.wrRoOrReserved 0x18 5) State.reset (fun t => (t.freqOut, t.responses)) =
    some (0#16, [.busError]) := by decide
theorem test_rdId : after .rdId State.reset (·.responses) = some [.data 0x53504543#32] := by decide
theorem test_rdConfig : after .rdConfig State.reset (·.responses) = some [.data 0x0400FA14#32] := by decide
theorem test_rdCmd : after .rdCmd State.reset (·.responses) = some [.data 0#32] := by decide
theorem test_rdStatus : after .rdStatus { State.reset with ready := true } (·.responses) = some [.data 1#32] := by decide
theorem test_rdStatus_error : after .rdStatus { State.reset with errcode := 2 } (·.responses) = some [.data 0x200#32] := by
  decide
theorem test_rdNumChannels : after .rdNumChannels (staged 0x80000014 0) (·.responses) = some [.data 0x80000014#32] := by decide
theorem test_rdSampleInterval : after .rdSampleInterval (staged 0 0x8001) (·.responses) = some [.data 0x8001#32] := by decide
theorem test_rdFreqOut : after .rdFreqOut { State.reset with freqOut := 0x42C9 } (·.responses) = some [.data 0x42C9#32] := by
  decide
theorem test_rdPeakBin : after .rdPeakBin { State.reset with peakBin := 139 } (·.responses) = some [.data 0x8B#32] := by decide
theorem test_rdPeakMag2 : after .rdPeakMag2 { State.reset with peakMag2 := 0x4FBC } (·.responses) = some [.data 0x4FBC#32] := by
  decide
theorem test_rdElapsed : after .rdElapsed { State.reset with elapsed := 0x00FA } (·.responses) = some [.data 0xFA#32] := by
  decide
theorem test_rdChSample : after (.rdChSample 19) { State.reset with chSample := State.reset.chSample.set 19 0x8000 }
    (·.responses) = some [.data 0x8000#32] := by decide
theorem test_rdRbCursor : after (.rdRbCursor 0) (rbPush 0 0x3C00 State.reset) (·.responses) = some [.data 1#32] := by decide
theorem test_rdRbSnap : after (.rdRbSnap 0 247) (pushAll 0 [0x3C00, 0x4000, 0x4200] State.reset) (·.responses) =
    some [.data 0x3C00#32] := by decide
theorem test_rdRbSnap_wraps :
    after (.rdRbSnap 2 0) (rbPush 2 0x4000 { State.reset with cur := State.reset.cur.set 2 249, rb := [(500, 0x4900#16)] })
      (fun t => (t.responses, t.cur[(2 : Fin 20)])) = some ([.data 0x4900#32], 0) := by decide
theorem test_rdReserved : after (.rdReserved 0x28) State.reset (·.responses) = some [.busError] := by decide
theorem test_half_word_read_is_bus_error :
    step { State.reset with pending := [.access ⟨.read, 2, 0, 0⟩] } = .next State.reset.raiseBusError := by rfl

/-! ### Witnesses: the hypotheses of each statement are met -/

/-- An access waiting in IDLE after reset. -/
def waiting (a : Access) : State := { State.reset with pending := [.access a] }

theorem witness_DecodeOfEncodeIsIdentity :
    (Instr.wrCmd 3).wellFormed = true ∧ (Instr.wrCmd 0xFFFFFFFF).wellFormed = true ∧
    (Instr.wrRoOrReserved 0x0000 0).wellFormed = true ∧ (Instr.wrRoOrReserved 0x7FFF 0).wellFormed = true ∧
    (Instr.rdReserved 0x0028).wellFormed = true ∧ (Instr.rdReserved 0x7FFF).wellFormed = true ∧
    (Instr.rdRbSnap 19 249).wellFormed = true := by decide
theorem witness_EncodeOfDecodeIsIdentity : decode ⟨.write, 4, 0x00CC#15, 7#32⟩ = .ok (.wrChSample 19 7) := by rfl
theorem witness_RegisterMapMatchesEachOffsetOnce :
    registerAt 0x5FE4 = some (.rbSnap 19 249) ∧ registerAt 0x5FE8 = none ∧ registerAt 0x0001 = none := by decide
theorem witness_StepRunsDecodedInstruction :
    (waiting ⟨.write, 4, 0x0008, 2⟩).pending = .access ⟨.write, 4, 0x0008, 2⟩ :: [] ∧
    (waiting ⟨.write, 4, 0x0008, 2⟩).control = .idle ∧ decode ⟨.write, 4, 0x0008, 2⟩ = .ok .step := ⟨rfl, rfl, rfl⟩
theorem witness_EveryStepAnswersANextState : State.reset.pending = [] := rfl
theorem witness_ResetInputGivesResetState :
    ({ staged 3 0x3C00 with control := .compute, pending := [.reset] } : State).pending = .reset :: [] := rfl
theorem witness_UnsupportedAccessGetsBusError_size :
    (waiting ⟨.write, 8, 0x0010, 2⟩).pending = .access ⟨.write, 8, 0x0010, 2⟩ :: [] ∧
    (waiting ⟨.write, 8, 0x0010, 2⟩).control = .idle ∧ (⟨.write, 8, 0x0010, 2⟩ : Access).size ≠ 4 := ⟨rfl, rfl, by decide⟩
theorem witness_UnsupportedAccessGetsBusError_alignment :
    (waiting ⟨.read, 4, 0x7FFF, 0⟩).pending = .access ⟨.read, 4, 0x7FFF, 0⟩ :: [] ∧
    (waiting ⟨.read, 4, 0x7FFF, 0⟩).control = .idle ∧ (0x7FFF#15).extractLsb' 0 2 ≠ 0#2 := ⟨rfl, rfl, by decide⟩
theorem witness_BusErrorExactlyWhenStated :
    (waiting ⟨.write, 4, 0x5FE4, 2⟩).pending = .access ⟨.write, 4, 0x5FE4, 2⟩ :: [] ∧
    (waiting ⟨.write, 4, 0x5FE4, 2⟩).control = .idle ∧
    (readOnlyRegister (.rbSnap 19 249) = true ∧ Register.offset (.rbSnap 19 249) = 0x5FE4#15) ∧
    reservedOffset 0x7FFC = true ∧ (0x7FFF#15).toNat % 4 ≠ 0 ∧
    ¬ (Config.baseAddr ≤ Config.baseAddr + 0x8000 ∧ Config.baseAddr + 0x8000 < Config.baseAddr + 0x8000) :=
  ⟨rfl, rfl, by decide, by decide, by decide, by omega⟩
theorem witness_CmdReadsZeroAndMbzIsReserved :
    (0x00000012#32).extractLsb' 4 28 ≠ 0#28 ∧ (0x80000000#32).extractLsb' 4 28 ≠ 0#28 := by decide
theorem witness_RbSnapReadsSnapshotInOrder :
    (0x1000 ≤ (0x13E8#15).toNat ∧ 250 ≤ ((0x13E8#15).extractLsb' 2 8).toNat) ∧
    0x1000 ≤ (0x7FFF#15).toNat ∧ 250 ≤ ((0x7FFF#15).extractLsb' 2 8).toNat := by decide
theorem witness_ReservedOffsetsGetBusError :
    [0x0028#15, 0x007C#15, 0x00D0#15, 0x00FC#15, 0x0150#15, 0x0FFC#15, 0x13E8#15, 0x5FFC#15, 0x6000#15, 0x7FFC#15].all
      reservedOffset = true := by decide
theorem witness_WritesToReadOnlyRegistersGetBusError :
    readOnlyRegister .id = true ∧ readOnlyRegister .elapsed = true ∧ readOnlyRegister (.rbCursor 19) = true ∧
    readOnlyRegister (.rbSnap 0 0) = true ∧ reservedOffset 0x0028 = true := by decide
theorem witness_RepeatedReadsAgree :
    ({ State.reset with pending := [.access ⟨.read, 4, 0x13E4, 0⟩, .access ⟨.read, 4, 0x13E4, 0⟩] } : State).pending =
      .access ⟨.read, 4, 0x13E4, 0⟩ :: .access ⟨.read, 4, 0x13E4, 0⟩ :: [] ∧ State.reset.control = .idle := ⟨rfl, rfl⟩
theorem witness_InitIsIdempotent : ∃ t, exec .init (staged 20 0x3C00) = .next t := ⟨_, rfl⟩
theorem witness_InitClearsEstimator :
    Memory.wf ({ State.reset with rb := [(0, 0x3C00), (4999, 0x8000)] } : State).rb = true := by decide
theorem witness_ReservedCommandIsBadCmd :
    (3#32 ≠ 0#32 ∧ 3#32 ≠ 1#32 ∧ 3#32 ≠ 2#32) ∧ (0xFFFFFFFF#32 ≠ 0#32 ∧ 0xFFFFFFFF#32 ≠ 1#32 ∧ 0xFFFFFFFF#32 ≠ 2#32) := by
  decide
theorem witness_IngestPushesActiveChannels :
    Memory.wf (staged 20 0x3C00).rb = true ∧ frameAccepted (staged 20 0x3C00) = true := by decide
theorem witness_StepFollowsItsPseudocode_channels : 20 < (staged 21 0).numChannels.toNat := by decide
theorem witness_StepFollowsItsPseudocode_interval :
    (staged 20 0).numChannels.toNat ≤ 20 ∧ gt16 (staged 20 0).sampleInterval zero16 = false := by decide
theorem witness_StepFollowsItsPseudocode_closed :
    (staged 20 0x0001).numChannels.toNat ≤ 20 ∧ gt16 (staged 20 0x0001).sampleInterval zero16 = true ∧
    lt16 (add16 (staged 20 0x0001).elapsed (staged 20 0x0001).sampleInterval) one16 = true := by decide
theorem witness_StepFollowsItsPseudocode_open :
    (staged 20 0x3C00).numChannels.toNat ≤ 20 ∧ gt16 (staged 20 0x3C00).sampleInterval zero16 = true ∧
    lt16 (add16 (staged 20 0x3C00).elapsed (staged 20 0x3C00).sampleInterval) one16 = false := by decide
theorem witness_EveryStepKeepsWellFormedness :
    (waiting ⟨.write, 4, 0x0008, 1⟩).wf = true ∧ ∃ t, step (waiting ⟨.write, 4, 0x0008, 1⟩) = .next t :=
  ⟨by decide +kernel, _, rfl⟩
theorem witness_ResponsesDoNotDependOnScratch :
    sameButScratch State.reset { State.reset with scratch := ⟨[0x3C00], [], [], []⟩ } ∧
    State.reset ≠ { State.reset with scratch := ⟨[0x3C00], [], [], []⟩ } := by
  refine ⟨rfl, fun h => ?_⟩
  exact absurd (congrArg (fun s : State => s.scratch.mag.length) h) (by decide +kernel)
theorem witness_ResponsesDoNotDependOnScratch_step : ∃ s', step (waiting ⟨.write, 4, 0x0008, 2⟩) = .next s' := ⟨_, rfl⟩
theorem witness_OnlyCommandsChangeTheEstimator :
    (∃ t, exec (.wrChSample 0 1) State.reset = .next t) ∧ Instr.wrChSample 0 1 ≠ .init ∧ Instr.wrChSample 0 1 ≠ .step ∧
    ∀ w, Instr.wrChSample 0 1 ≠ .wrCmd w := ⟨⟨_, rfl⟩, nofun, nofun, nofun⟩
theorem witness_StagingChangesOnlyByItsWrite : ∃ t, exec (.wrChSample 19 0xFFFF8000) State.reset = .next t := ⟨_, rfl⟩
theorem witness_GateReadsOnlyElapsedAndInterval :
    (frameAccepted (staged 20 0x3C00) = true ∧ frameAccepted (staged 0 0x3C00) = true) ∧
    (staged 20 0x3C00).elapsed = (staged 0 0x3C00).elapsed ∧
    (staged 20 0x3C00).sampleInterval = (staged 0 0x3C00).sampleInterval ∧
    (∃ t, exec .step (staged 20 0x3C00) = .next t) ∧ ∃ t, exec .step (staged 0 0x3C00) = .next t :=
  ⟨by decide, rfl, rfl, ⟨_, rfl⟩, _, rfl⟩
theorem witness_InfiniteElapsedLastsUntilInit :
    ({ staged 20 0x0001 with elapsed := 0x7C00 } : State).elapsed = 0x7C00#16 ∧
    frameAccepted { staged 20 0x0001 with elapsed := 0x7C00 } = true ∧
    (∃ t, exec .step { staged 20 0x0001 with elapsed := 0x7C00 } = .next t) ∧
    ∃ t, exec .init { staged 20 0x0001 with elapsed := 0x7C00 } = .next t :=
  ⟨rfl, by decide, ⟨_, rfl⟩, _, rfl⟩
theorem witness_TinyIntervalNeverOpensGate :
    ({ staged 20 0x0001 with elapsed := 0x0800 } : State).numChannels.toNat ≤ 20 ∧
    ({ staged 20 0x0001 with elapsed := 0x0800 } : State).sampleInterval = 0x0001#16 ∧
    ({ staged 20 0x0001 with elapsed := 0x0800 } : State).elapsed.toNat ≤ 0x0800 := by decide
theorem witness_CadenceOfPointZeroFourIsTwentyFive :
    (0 < 24 ∧ 23 < 24) ∧ (staged 20 0x291F).numChannels.toNat ≤ 20 ∧ (staged 20 0x291F).sampleInterval = 0x291F#16 ∧
    (staged 20 0x291F).elapsed = 0x0000#16 := by decide
theorem witness_SnapshotIsLastPushes :
    Memory.wf (rbPush 19 0x3C00 State.reset).rb = true ∧
    250 ≤ (((((0 : Channel), 0x3C00#16) :: List.replicate 250 ((19 : Channel), 0x4000#16)).filter
      fun p => p.1 = 19).map Prod.snd).length := by decide +kernel
theorem witness_FullWrapReturnsToStart :
    Memory.wf (rbPush 19 0x3C00 State.reset).rb = true ∧ (List.replicate 250 0x4000#16).length = 250 := by decide +kernel
theorem witness_RoundingIsNearestTiesToEven :
    0 < 1 ∧ isFinite16 (rnd16 65519 1 false) = true ∧ isInf16 (rnd16 65520 1 false) = true ∧ isFinite16 0x7BFF = true := by
  decide
/-- A tie: 2^-25 lies between +0 and 2^-24 and goes to the even +0. -/
theorem witness_RoundingIsNearestTiesToEven_tie :
    |val24 (rnd16 1 (2 ^ 25) false) * 2 ^ 25 - 1 * 2 ^ 24| = |val24 0x0001 * 2 ^ 25 - 1 * 2 ^ 24| ∧
    val24 0x0001 ≠ val24 (rnd16 1 (2 ^ 25) false) := by decide
theorem witness_ComparisonIsTheOrderOfValues :
    isNaN16 0xFC00 = false ∧ isNaN16 0x7C00 = false ∧ isFinite16 0x7BFF = true ∧ isFinite16 0xFBFF = true := by decide
theorem witness_IdentitiesOfThePrimitives :
    isNaN16 0x7C00 = false ∧ (isFinite16 0x0801 = true ∧ 2048 ≤ mag24 0x0801) ∧
    (isFinite16 0x0402 = true ∧ mag24 0x0402 % 2 = 0) ∧ (isNaN16 0x8001 = false ∧ 0x8001#16 ≠ 0x8000#16) := by decide
theorem witness_PrimitivesReturnOneNaN :
    isNaN16 (add16 0x7C00 0xFC00) = true ∧ isNaN16 (sub16 0x7C00 0x7C00) = true ∧ isNaN16 (mul16 0x0000 0xFC00) = true ∧
    isNaN16 (div16 0x8000 0x0000) = true := by decide
theorem witness_TaperMultipliesThenZeroFills : (List.replicate 250 0x3C00#16).length = 250 := List.length_replicate
theorem witness_PackAndBitReversePlaceEachSample :
    (List.replicate 1024 0x3C00#16).length = 1024 ∧ (List.replicate 512 (0x3C00#16, 0#16)).length = 512 ∧ 511 < 512 ∧ 8 < 9 :=
  ⟨List.length_replicate, List.length_replicate, by decide⟩
theorem witness_StageAppliesEveryButterfly :
    ((1 ≤ 1 ∧ 1 ≤ 9 ∧ 255 < 512 / 2 ^ 1 ∧ 0 < 2 ^ 1 / 2) ∧ (1 ≤ 9 ∧ 9 ≤ 9 ∧ 0 < 512 / 2 ^ 9 ∧ 255 < 2 ^ 9 / 2)) ∧
    (List.replicate 512 (0x3C00#16, 0#16)).length = 512 := ⟨by decide, List.length_replicate⟩
theorem witness_SplitWritesPackedSpectrum :
    (List.replicate 512 (0x3C00#16, 0#16)).length = 512 ∧ (1 ≤ 1 ∧ 1 < 512) ∧ 1 ≤ 511 ∧ 511 < 512 :=
  ⟨List.length_replicate, by decide⟩
theorem witness_RomTablesAgree : 256 ≤ 256 ∧ 511 < 512 ∧ 1 ≤ 1023 ∧ 1023 < 1024 := by decide
theorem witness_MagnitudeIsNeverNegative : (List.replicate 1024 0x3C00#16).length = 1024 ∧ 511 < 512 :=
  ⟨List.length_replicate, by decide⟩
theorem witness_PeakIsTheFirstMaximum :
    isNaN16 0xFFFF = true ∧ isNaN16 0x7C00 = false ∧ 0 < (peak [0x0000, 0x3C00]).1 := by decide
theorem witness_FrequencyIsNeverNegative :
    gt16 0x0001 zero16 = true ∧ 511 < 512 ∧ (gt16 0x5400 zero16 = true ∧ lt16 0x5400 0x5400 = false) ∧
    (gt16 0x7C00 zero16 = true ∧ lt16 0x7C00 0x5400 = false) := by decide
/-- One active channel whose staged sample is -0, over rings of +0. -/
def silent : State := { staged 1 0x3C00 with chSample := Vector.replicate 20 0x8000#16 }
theorem witness_SilenceReportsZeroHertz :
    frameAccepted silent = true ∧ gateOpens silent = true ∧
    ∀ c : Channel, c.val < silent.numChannels.toNat → ∀ i : Slot, isZero16 ((ingest silent.numChannels silent).slot c i) = true := by
  decide +kernel
/-- Twenty active channels, the last one staged with the sample x. -/
def poisoned (x : F16) : State := { staged 20 0x3C00 with chSample := (Vector.replicate 20 0x3C00#16).set 19 x }
theorem witness_NaNSamplePoisonsThePass_nan :
    frameAccepted (poisoned 0xFFFF) = true ∧ gateOpens (poisoned 0xFFFF) = true ∧
    (19 : Channel).val < (poisoned 0xFFFF).numChannels.toNat ∧
    isNaN16 (snapshotAt 19 249 (ingest (poisoned 0xFFFF).numChannels (poisoned 0xFFFF))) = true := by decide
theorem witness_NaNSamplePoisonsThePass_infinity :
    frameAccepted (poisoned 0xFC00) = true ∧ gateOpens (poisoned 0xFC00) = true ∧
    (19 : Channel).val < (poisoned 0xFC00).numChannels.toNat ∧ (249 : Slot) ≠ 1 ∧
    isFinite16 (snapshotAt 19 249 (ingest (poisoned 0xFC00).numChannels (poisoned 0xFC00))) = false := by decide
theorem witness_AddressesAndLanesRoundTrip :
    ¬ (Config.baseAddr ≤ Config.baseAddr + 0x8000 ∧ Config.baseAddr + 0x8000 < Config.baseAddr + 0x8000) := by omega
theorem witness_BurstIsItsBeats : 0x7FF8 + 4 * [1#32, 2#32].length ≤ 0x8000 ∧ 1 < [1#32, 2#32].length := by decide

end Sys2Proof.Tests
end

section
/-! SUPPORT. The signs and classes of what the binary16 primitives answer, as far as the invariant needs them: sums,
products and quotients of values that are at least +0 (40_fp16.md R104, R106 to R110). -/

namespace Sys2Proof.Machine

/-! ### Values that are at least +0 -/

theorem nonNegative16_iff (x : F16) : nonNegative16 x = true ↔ sign16 x = false ∧ isNaN16 x = false := by
  simp [nonNegative16]

theorem val24_nonneg {x : F16} (h : sign16 x = false) : 0 ≤ val24 x := by
  simp [val24, h]

theorem sign16_of_val24_pos {x : F16} (h : 0 < val24 x) : sign16 x = false := by
  cases hs : sign16 x with
  | false => rfl
  | true => simp only [val24, hs, if_true] at h; omega

/-- A rounded value that is not below 0 gets the sign 0. -/
theorem rnd16_nonNegative {num : Int} (den : Nat) (h : 0 ≤ num) : nonNegative16 (rnd16 num den false) = true := by
  obtain ⟨hnan, hsign⟩ := rnd16_spec num den false
  refine (nonNegative16_iff _).mpr ⟨?_, hnan⟩
  rw [hsign]
  split
  · rfl
  · exact decide_eq_false (by omega)

theorem signedZero16_nonNegative : nonNegative16 (signedZero16 false) = true := by decide

theorem signedInf16_nonNegative : nonNegative16 (signedInf16 false) = true := by decide

/-! ### Comparison (R109) -/

theorem lt16_finite {a b : F16} (ha : isNaN16 a = false) (hb : isNaN16 b = false) (hai : isInf16 a = false)
    (hbi : isInf16 b = false) : lt16 a b = decide (val24 a < val24 b) := by
  simp [lt16, ha, hb, hai, hbi]

/-- A value above +0 is +infinity or a positive finite value. -/
theorem gt16_zero_cases {x : F16} (h : gt16 x zero16 = true) :
    nonNegative16 x = true ∧ (isInf16 x = true ∨ (isInf16 x = false ∧ 0 < val24 x)) := by
  have hzn : isNaN16 zero16 = false := by decide
  have hzi : isInf16 zero16 = false := by decide
  have hzv : val24 zero16 = 0 := by decide
  unfold gt16 at h
  cases hn : isNaN16 x with
  | true => simp [lt16, hn] at h
  | false =>
    cases hi : isInf16 x with
    | true =>
      have hs : sign16 x = false := by simpa [lt16, hzn, hn, hzi, hi] using h
      exact ⟨(nonNegative16_iff x).mpr ⟨hs, hn⟩, .inl rfl⟩
    | false =>
      have hv : 0 < val24 x := by simpa [lt16_finite hzn hn hzi hi, hzv] using h
      exact ⟨(nonNegative16_iff x).mpr ⟨sign16_of_val24_pos hv, hn⟩, .inr ⟨rfl, hv⟩⟩

/-! ### Sums (R104, R106) -/

theorem sign16_add16 {a b : F16} (ha : sign16 a = false) (hb : sign16 b = false) : sign16 (add16 a b) = false := by
  unfold add16
  split_ifs with hnan hopp hai hbi hzero
  · decide
  · decide
  · exact ha
  · exact hb
  · rw [sign16_signedZero16, ha, hb]; rfl
  · have hsum : 0 ≤ val24 a + val24 b := add_nonneg (val24_nonneg ha) (val24_nonneg hb)
    exact ((nonNegative16_iff _).mp (rnd16_nonNegative _ hsum)).1

/-- A sum is a NaN only for a NaN operand or infinities of opposite signs. -/
theorem isNaN16_add16 {a b : F16} (ha : isNaN16 a = false) (hb : isNaN16 b = false)
    (h : isInf16 b = false ∨ sign16 a = sign16 b) : isNaN16 (add16 a b) = false := by
  unfold add16
  split_ifs with hnan hopp hai hbi hzero
  · simp [ha, hb] at hnan
  · rcases h with h | h <;> simp [h] at hopp
  · exact ha
  · exact hb
  · exact isNaN16_signedZero16 _
  · exact (rnd16_spec _ _ _).1

theorem add16_nonNegative {a b : F16} (ha : nonNegative16 a = true) (hb : nonNegative16 b = true) :
    nonNegative16 (add16 a b) = true := by
  obtain ⟨has, han⟩ := (nonNegative16_iff a).mp ha
  obtain ⟨hbs, hbn⟩ := (nonNegative16_iff b).mp hb
  exact (nonNegative16_iff _).mpr ⟨sign16_add16 has hbs, isNaN16_add16 han hbn (.inr (has.trans hbs.symm))⟩

/-- Subtracting 1.0 from a value that is not below 1.0 leaves at least +0. -/
theorem sub16_one_nonNegative {a : F16} (ha : nonNegative16 a = true) (h : lt16 a one16 = false) :
    nonNegative16 (sub16 a one16) = true := by
  obtain ⟨has, han⟩ := (nonNegative16_iff a).mp ha
  have hn : isNaN16 (neg16 one16) = false := by decide
  have hi : isInf16 (neg16 one16) = false := by decide
  have hv : val24 (neg16 one16) = -val24 one16 := by decide
  refine (nonNegative16_iff _).mpr ⟨?_, isNaN16_add16 han hn (.inl hi)⟩
  unfold sub16 add16
  split_ifs with hnan hopp hai hbi hzero
  · decide
  · decide
  · exact has
  · simp [hi] at hbi
  · rw [sign16_signedZero16, has]; rfl
  · have hle : val24 one16 ≤ val24 a := by
      rw [lt16_finite han (by decide) (by simpa using hai) (by decide)] at h
      exact not_lt.mp (of_decide_eq_false h)
    exact ((nonNegative16_iff _).mp (rnd16_nonNegative _ (by omega))).1

/-! ### Products (R107) and quotients (R108) -/

/-- A square never has the sign bit. -/
theorem sign16_mul16_self (x : F16) : sign16 (mul16 x x) = false := by
  unfold mul16
  rw [Bool.xor_self]
  split_ifs
  · decide
  · decide
  · exact sign16_signedInf16 false
  · exact ((nonNegative16_iff _).mp (rnd16_nonNegative _ (mul_self_nonneg (val24 x)))).1

theorem div16_nonNegative {a b : F16} (ha : nonNegative16 a = true) (hb : nonNegative16 b = true)
    (hai : isInf16 a = false) (hbz : isZero16 b = false) : nonNegative16 (div16 a b) = true := by
  obtain ⟨has, han⟩ := (nonNegative16_iff a).mp ha
  obtain ⟨hbs, hbn⟩ := (nonNegative16_iff b).mp hb
  simp only [div16, has, han, hai, hbs, hbn, hbz, Bool.or_self, Bool.false_and, Bool.and_false, Bool.xor_self,
    Bool.false_eq_true, if_false]
  split
  · exact signedZero16_nonNegative
  · exact rnd16_nonNegative _ (val24_nonneg has)

/-! ### Where a rounding answers an infinity or a zero (R102) -/

/-- A binade below the last one never rounds to an infinity. -/
theorem isInf16_finish16 (s : Bool) {k : Nat} (n : Nat) (hk : k < 29) : isInf16 (finish16 s k n) = false := by
  have hpack : ∀ (e : BitVec 5) (f : BitVec 10), e.toNat < 31 → isInf16 (pack16 s e f) = false := by
    intro e f he
    have : e.toNat ≠ 31 := by omega
    simp [isInf16, this]
  unfold finish16
  split_ifs
  · omega
  · exact hpack _ _ (by rw [BitVec.toNat_ofNat]; omega)
  · omega
  · exact hpack _ _ (by decide)
  · exact hpack _ _ (by rw [BitVec.toNat_ofNat]; omega)

/-- A significand of a normal value never rounds to a zero. -/
theorem isZero16_finish16 (s : Bool) (k : Nat) {n : Nat} (hn : 1024 ≤ n) : isZero16 (finish16 s k n) = false := by
  have hinf : isZero16 (signedInf16 s) = false := by cases s <;> decide
  have hpack : ∀ (e : BitVec 5) (f : BitVec 10), e.toNat ≠ 0 → isZero16 (pack16 s e f) = false := by
    intro e f he
    simp [isZero16, he]
  unfold finish16
  split_ifs
  · exact hinf
  · exact hpack _ _ (by rw [BitVec.toNat_ofNat]; omega)
  · exact hinf
  · omega
  · exact hpack _ _ (by rw [BitVec.toNat_ofNat]; omega)

/-- The significand of a value of at least 2^-14, the least normal value, is that of a normal one. -/
theorem le_nearestEven_binade {a d : Nat} (h : 1024 ≤ a / d) : 1024 ≤ nearestEven a (d * 2 ^ binade24 a d) := by
  have hlog : 10 ≤ Nat.log2 (a / d) := (Nat.le_log2 (by omega)).mpr h
  have hself : 2 ^ Nat.log2 (a / d) ≤ a / d := Nat.log2_self_le (by omega)
  have hsplit : 1024 * 2 ^ binade24 a d ≤ a / d :=
    calc 1024 * 2 ^ binade24 a d = 2 ^ (10 + binade24 a d) := by rw [Nat.pow_add]
      _ = 2 ^ Nat.log2 (a / d) := by rw [binade24, Nat.add_sub_cancel' hlog]
      _ ≤ a / d := hself
  have hq : 1024 ≤ a / (d * 2 ^ binade24 a d) := by
    rw [← Nat.div_div_eq_div_mul]
    exact (Nat.le_div_iff_mul_le (by positivity)).mpr hsplit
  unfold nearestEven
  split <;> omega

/-- A conversion below 512 answers a finite value. -/
theorem isInf16_cvt16 {n : Nat} (hn : n < 512) : isInf16 (cvt16 n) = false := by
  unfold cvt16 rnd16
  split
  · decide
  · next h0 =>
    have hne : n ≠ 0 := by simpa using h0
    refine isInf16_finish16 _ _ ?_
    have hlog : Nat.log2 (n * 2 ^ 24) < 33 := (Nat.log2_lt (by omega)).mpr (by omega)
    simp only [binade24, Int.natAbs_natCast, Nat.div_one]
    omega

theorem cvt16_nonNegative (n : Nat) : nonNegative16 (cvt16 n) = true := rnd16_nonNegative _ (Int.natCast_nonneg n)

/-! ### The frequency estimate (45_detect.md R253) -/

/-- 1024 times an interval above +0 is above +0: it is at least 2^-14, so the rounding does not reach a zero. -/
theorem mul16_n16_interval {si : F16} (h : gt16 si zero16 = true) :
    nonNegative16 (mul16 n16 si) = true ∧ isZero16 (mul16 n16 si) = false := by
  obtain ⟨hsi, hcases⟩ := gt16_zero_cases h
  obtain ⟨hs, hn⟩ := (nonNegative16_iff si).mp hsi
  have hnn : isNaN16 n16 = false := by decide
  have hni : isInf16 n16 = false := by decide
  have hnz : isZero16 n16 = false := by decide
  have hns : sign16 n16 = false := by decide
  have hnv : val24 n16 = 2 ^ 34 := by decide
  rcases hcases with hi | ⟨hi, hv⟩
  · have hm : mul16 n16 si = signedInf16 false := by simp [mul16, hnn, hni, hnz, hns, hs, hn, hi]
    rw [hm]
    exact ⟨signedInf16_nonNegative, by decide⟩
  · have hm : mul16 n16 si = rnd16 (2 ^ 34 * val24 si) (2 ^ 48) false := by
      simp only [mul16, hnn, hni, hnz, hns, hs, hn, hi, hnv, Bool.or_self, Bool.and_false, Bool.false_and,
        Bool.xor_self, Bool.false_eq_true, if_false]
    rw [hm]
    refine ⟨rnd16_nonNegative _ (by omega), ?_⟩
    unfold rnd16
    rw [if_neg (by omega)]
    exact isZero16_finish16 _ _ (le_nearestEven_binade (by omega))

/-- The frequency of a searched bin is never negative and never NaN. -/
theorem frequency_nonNegative {bin : Nat} {si : F16} (hbin : bin < 512) (hsi : gt16 si zero16 = true) :
    nonNegative16 (frequency bin si) = true := by
  obtain ⟨hm, hmz⟩ := mul16_n16_interval hsi
  exact div16_nonNegative (cvt16_nonNegative bin) hm (isInf16_cvt16 hbin) hmz

/-! ### Magnitudes and the peak (45_detect.md R250, R251) -/

theorem sign16_magSquared (re im : F16) : sign16 (magSquared re im) = false :=
  sign16_add16 (sign16_mul16_self re) (sign16_mul16_self im)

theorem sign16_of_mem_magnitudes : ∀ {acc : List F16} {v : F16}, v ∈ magnitudes acc → sign16 v = false
  | [], _, hv => nomatch hv
  | [_], _, hv => nomatch hv
  | re :: im :: acc, v, hv => by
    rw [magnitudes, List.mem_cons] at hv
    rcases hv with rfl | hv
    · exact sign16_magSquared re im
    · exact sign16_of_mem_magnitudes hv

/-- The scan's index stays below the end of the list. -/
theorem peakFrom_lt : ∀ (mag : List F16) {i best : Nat} (bestv : F16), best < i →
    (peakFrom i best bestv mag).1 < i + mag.length
  | [], _, _, _, h => h
  | v :: mag, i, best, bestv, h => by
    have hlen : i + (v :: mag).length = i + 1 + mag.length := by rw [List.length_cons]; omega
    rw [peakFrom, hlen]
    split
    · exact peakFrom_lt mag v (by omega)
    · exact peakFrom_lt mag bestv (by omega)

theorem peak_lt {mag : List F16} (h : 0 < mag.length) : (peak mag).1 < mag.length := by
  cases mag with
  | nil => exact h
  | cons v mag =>
    rw [List.length_cons, Nat.add_comm]
    exact peakFrom_lt mag v Nat.one_pos

/-- The scan's value is the one it started from or one of the list. -/
theorem peakFrom_mem : ∀ (mag : List F16) (i best : Nat) (bestv : F16), (peakFrom i best bestv mag).2 ∈ bestv :: mag
  | [], _, _, _ => List.mem_singleton.mpr rfl
  | v :: mag, i, best, bestv => by
    rw [peakFrom]
    split
    · exact List.mem_cons_of_mem _ (peakFrom_mem mag _ _ v)
    · rcases List.mem_cons.mp (peakFrom_mem mag (i + 1) best bestv) with h | h
      · rw [h]; exact List.mem_cons_self
      · exact List.mem_cons_of_mem _ (List.mem_cons_of_mem _ h)

theorem sign16_peak_magnitudes (acc : List F16) : sign16 (peak (magnitudes acc)).2 = false := by
  cases hm : magnitudes acc with
  | nil => decide
  | cons v mag =>
    have hmem : (peak (v :: mag)).2 ∈ magnitudes acc := by
      rw [hm]; exact peakFrom_mem mag 1 0 v
    exact sign16_of_mem_magnitudes hmem

end Sys2Proof.Machine
end

section
/-! SUPPORT. What each instruction, each step and each pass does, said once for the statements about whole states: the
forms an instruction's meaning takes, the equations of a step, and the results of a pass as functions of the rings. -/

namespace Sys2Proof.Machine

/-! ### Instructions -/

/-- The effects an instruction can have, each one function on every state. -/
inductive InstrEffect (i : Instr) : (State → State) → Prop
  /-- The host receives a fixed response and nothing else changes. -/
  | responds (r : Response) : InstrEffect i fun s => s.respond r
  /-- The host receives the word of a register and nothing else changes. -/
  | reads (r : Register) : InstrEffect i fun s => s.answer r
  | writesNumChannels (w : Word) (hi : i = .wrNumChannels w) : InstrEffect i fun s => (s.setNumChannels w).respond .ok
  | writesSampleInterval (w : Word) (hi : i = .wrSampleInterval w) :
      InstrEffect i fun s => (s.setSampleInterval (f16OfWord w)).respond .ok
  | writesChSample (c : Channel) (w : Word) (hi : i = .wrChSample c w) :
      InstrEffect i fun s => (s.setChSample c (f16OfWord w)).respond .ok
  | inits (hi : i = .init ∨ i = .wrCmd 1) : InstrEffect i fun s => (inCompute initEffect s).respond .ok
  | steps (hi : i = .step ∨ i = .wrCmd 2) : InstrEffect i fun s => (inCompute stepEffect s).respond .ok
  /-- A reserved command word (42_commands.md R175). -/
  | rejects (w : Word) (hi : i = .wrCmd w) : InstrEffect i fun s => (s.reject errBadCmd).respond .ok

theorem exec_wrCmd_effect (w : Word) :
    ∃ f, InstrEffect (.wrCmd w) f ∧ ∀ s, exec (.wrCmd w) s = .next (f s) := by
  by_cases h0 : w = 0#32
  · subst h0; exact ⟨_, .responds .ok, fun _ => rfl⟩
  by_cases h1 : w = 1#32
  · subst h1; exact ⟨_, .inits (.inr rfl), fun _ => rfl⟩
  by_cases h2 : w = 2#32
  · subst h2; exact ⟨_, .steps (.inr rfl), fun _ => rfl⟩
  refine ⟨_, .rejects w rfl, fun s => ?_⟩
  show execWrCmd w s = _
  rw [execWrCmd, if_neg h0, if_neg h1, if_neg h2, badCommand]

/-- Every instruction has one of the effects, in every state. -/
theorem exec_effect (i : Instr) : ∃ f, InstrEffect i f ∧ ∀ s, exec i s = .next (f s) := by
  cases i with
  | nop => exact ⟨_, .responds .ok, fun _ => rfl⟩
  | init => exact ⟨_, .inits (.inl rfl), fun _ => rfl⟩
  | step => exact ⟨_, .steps (.inl rfl), fun _ => rfl⟩
  | wrCmd w => exact exec_wrCmd_effect w
  | wrNumChannels w => exact ⟨_, .writesNumChannels w rfl, fun _ => rfl⟩
  | wrSampleInterval w => exact ⟨_, .writesSampleInterval w rfl, fun _ => rfl⟩
  | wrChSample c w => exact ⟨_, .writesChSample c w rfl, fun _ => rfl⟩
  | wrRoOrReserved off w => exact ⟨_, .responds .busError, fun _ => rfl⟩
  | rdId => exact ⟨_, .reads .id, fun _ => rfl⟩
  | rdConfig => exact ⟨_, .reads .config, fun _ => rfl⟩
  | rdCmd => exact ⟨_, .reads .cmd, fun _ => rfl⟩
  | rdStatus => exact ⟨_, .reads .status, fun _ => rfl⟩
  | rdNumChannels => exact ⟨_, .reads .numChannels, fun _ => rfl⟩
  | rdSampleInterval => exact ⟨_, .reads .sampleInterval, fun _ => rfl⟩
  | rdFreqOut => exact ⟨_, .reads .freqOut, fun _ => rfl⟩
  | rdPeakBin => exact ⟨_, .reads .peakBin, fun _ => rfl⟩
  | rdPeakMag2 => exact ⟨_, .reads .peakMag2, fun _ => rfl⟩
  | rdElapsed => exact ⟨_, .reads .elapsed, fun _ => rfl⟩
  | rdChSample c => exact ⟨_, .reads (.chSample c), fun _ => rfl⟩
  | rdRbCursor c => exact ⟨_, .reads (.rbCursor c), fun _ => rfl⟩
  | rdRbSnap c j => exact ⟨_, .reads (.rbSnap c j), fun _ => rfl⟩
  | rdReserved off => exact ⟨_, .responds .busError, fun _ => rfl⟩

theorem exec_answers_next (i : Instr) (s : State) : ∃ t, exec i s = .next t := by
  obtain ⟨f, -, hf⟩ := exec_effect i
  exact ⟨f s, hf s⟩

/-- The state an instruction answers is that of its effect. -/
theorem exec_inv {i : Instr} {s t : State} (h : exec i s = .next t) :
    ∃ f, InstrEffect i f ∧ (∀ u, exec i u = .next (f u)) ∧ t = f s := by
  obtain ⟨f, hform, hf⟩ := exec_effect i
  exact ⟨f, hform, hf, Host.Outcome.next.inj (h.symm.trans (hf s))⟩

/-! ### Steps -/

theorem step_of_empty {s : State} (h : s.pending = []) : step s = .next s := by
  rw [step, h]

theorem step_of_reset {s : State} {rest : List Input} (h : s.pending = .reset :: rest) :
    step s = .next (resetBlock (s.setPending rest)) := by
  rw [step, h]

theorem step_of_compute {s : State} {a : Access} {rest : List Input} (h : s.pending = .access a :: rest)
    (hc : s.control = .compute) : step s = .next s := by
  rw [step, h, hc]

theorem step_of_decoded {s : State} {a : Access} {rest : List Input} {i : Instr} (h : s.pending = .access a :: rest)
    (hc : s.control = .idle) (hd : decode a = .ok i) : step s = exec i (s.setPending rest) := by
  simp only [step, h, hc, hd]

theorem step_of_undecoded {s : State} {a : Access} {rest : List Input} {e : DecodeError}
    (h : s.pending = .access a :: rest) (hc : s.control = .idle) (hd : decode a = .error e) :
    step s = .next (s.setPending rest).raiseBusError := by
  simp only [step, h, hc, hd]; rfl

theorem step_answers_next (s : State) : ∃ t, step s = .next t := by
  cases hp : s.pending with
  | nil => exact ⟨_, step_of_empty hp⟩
  | cons x rest =>
    cases x with
    | reset => exact ⟨_, step_of_reset hp⟩
    | access a =>
      cases hc : s.control with
      | compute => exact ⟨_, step_of_compute hp hc⟩
      | idle =>
        cases hd : decode a with
        | error e => exact ⟨_, step_of_undecoded hp hc hd⟩
        | ok i => rw [step_of_decoded hp hc hd]; exact exec_answers_next i _

theorem observe_cons {s t : State} {x : Input} (xs : List Input) (h : step (s.setPending [x]) = .next t) :
    observe s (x :: xs) = observe t xs := by
  rw [observe, h]

/-! ### The checks of STEP (42_commands.md R170) -/

theorem stepError_le {nc : Word} {si : F16} {code : BitVec 4} (h : stepError nc si = some code) : code.toNat ≤ 3 := by
  unfold stepError at h
  split_ifs at h <;> cases h <;> decide

theorem gt16_of_stepError_none {nc : Word} {si : F16} (h : stepError nc si = none) : gt16 si zero16 = true := by
  unfold stepError at h
  split_ifs at h with _ hsi
  simpa using hsi

/-! ### The results of a pass -/

/-- After the spectral sum ACC holds the sum of the channels' spectra, whatever the working memories held before. -/
theorem spectralSum_acc (nc : Word) (s : State) : (spectralSum nc s).scratch.acc = spectralSumOf nc s := by
  have hfold : ∀ (l : List Channel) (t : State),
      (l.foldl (fun u c => channelSpectrum c u) t).scratch.acc =
        l.foldl (fun acc c => List.zipWith add16 acc (spectrumOf c t)) t.scratch.acc := by
    intro l
    induction l with
    | nil => intro t; rfl
    | cons c l ih => intro t; exact ih (channelSpectrum c t)
  exact hfold (activeChannels nc) (zeroAcc s)

/-- What a pass commits, as a function of the rings and the frame. -/
theorem computationPass_results (nc : Word) (si : F16) (s : State) :
    (computationPass nc si s).freqOut = frequency (peak (magnitudes (spectralSumOf nc s))).1 si ∧
    (computationPass nc si s).peakBin = BitVec.ofNat 9 (peak (magnitudes (spectralSumOf nc s))).1 ∧
    (computationPass nc si s).peakMag2 = (peak (magnitudes (spectralSumOf nc s))).2 := by
  rw [← spectralSum_acc]
  exact ⟨rfl, rfl, rfl⟩

theorem spectralSumOf_length (nc : Word) (s : State) : (spectralSumOf nc s).length = 1024 := by
  refine foldl_keeps (fun acc : List F16 => acc.length = 1024) _ (fun acc c h => ?_) _ _ List.length_replicate
  rw [List.length_zipWith, h, spectrumOf, refTransform_length, Nat.min_self]

theorem magnitudes_spectralSumOf_length (nc : Word) (s : State) : (magnitudes (spectralSumOf nc s)).length = 512 :=
  magnitudes_length 512 _ (spectralSumOf_length nc s)

end Sys2Proof.Machine
end

section
/-! PROOFS. The identity reads (10_state.md R33, R34) and the staging registers under every instruction (R21 to R23). -/

namespace Sys2Proof.Machine

theorem configWord_eq : configWord = 0x0400FA14#32 := by decide

/-- Settles O11: a read answers the register's word and changes nothing else, and the fields of the constant evaluate. -/
theorem identityReadsReturnConstants : Obligations.IdentityReadsReturnConstants := by
  intro s
  have hconfig : exec .rdConfig s = .next (s.answer .config) := rfl
  refine ⟨rfl, ?_, by decide, by decide, by decide⟩
  rw [hconfig, State.answer_eq, readRegister, configWord_eq]

/-! ### Staging registers under the commands -/

/-- The two states hold the same staging registers (10_state.md R21 to R23). -/
def sameStaging (s t : State) : Prop :=
  t.numChannels = s.numChannels ∧ t.sampleInterval = s.sampleInterval ∧ t.chSample = s.chSample

theorem initEffect_sameStaging (s : State) : sameStaging s (initEffect s) := by
  unfold initEffect
  rw [rbResetAll_frame]
  exact ⟨rfl, rfl, rfl⟩

theorem ingest_sameStaging (nc : Word) (s : State) : sameStaging s (ingest nc s) := by
  rw [ingest_frame]
  exact ⟨rfl, rfl, rfl⟩

theorem computationPass_sameStaging (nc : Word) (si : F16) (s : State) : sameStaging s (computationPass nc si s) := by
  rw [computationPass_frame]
  exact ⟨rfl, rfl, rfl⟩

/-- No way a STEP ends writes a staging register (42_commands.md R171). -/
theorem stepEffect_sameStaging (s : State) : sameStaging s (stepEffect s) := by
  obtain ⟨hnc, hsi, hch⟩ := ingest_sameStaging s.numChannels s
  rcases stepEffect_cases s with ⟨code, -, h⟩ | ⟨-, -, h⟩ | ⟨-, -, h⟩
  · rw [h]; exact ⟨rfl, rfl, rfl⟩
  · rw [h]; exact ⟨hnc, hsi, hch⟩
  · obtain ⟨hnc', hsi', hch'⟩ := computationPass_sameStaging s.numChannels s.sampleInterval
      (subtractInterval (accumulateElapsed s.sampleInterval (ingest s.numChannels s)))
    rw [h]
    exact ⟨hnc'.trans hnc, hsi'.trans hsi, hch'.trans hch⟩

theorem inCompute_sameStaging {effect : State → State} (heffect : ∀ s, sameStaging s (effect s)) (s : State) :
    sameStaging s (inCompute effect s) := by
  obtain ⟨hnc, hsi, hch⟩ := heffect (s.setControl .compute)
  exact ⟨hnc, hsi, hch⟩

theorem sameStaging_respond {s t : State} (h : sameStaging s t) (r : Response) : sameStaging s (t.respond r) := h

theorem f16OfWord_eq (w : Word) : f16OfWord w = w.extractLsb' 0 16 := BitVec.setWidth_eq_extractLsb' (by decide)

theorem State.setChSample_get (s : State) (c c' : Channel) (v : F16) :
    (s.setChSample c v).chSample[c'] = if c' = c then v else s.chSample[c'] := by
  rw [State.setChSample_chSample]
  by_cases h : c' = c
  · subst h; simp
  · have hne : c.val ≠ c'.val := fun e => h (Fin.ext e.symm)
    simp [h, Vector.getElem_set_ne, hne]

/-- An instruction keeps the staging registers or is the write of one of them. -/
theorem InstrEffect.staging {i : Instr} {f : State → State} (h : InstrEffect i f) (s : State) :
    sameStaging s (f s) ∨
    (∃ w, i = .wrNumChannels w ∧ f s = (s.setNumChannels w).respond .ok) ∨
    (∃ w, i = .wrSampleInterval w ∧ f s = (s.setSampleInterval (f16OfWord w)).respond .ok) ∨
    (∃ c w, i = .wrChSample c w ∧ f s = (s.setChSample c (f16OfWord w)).respond .ok) := by
  cases h with
  | responds r => exact .inl ⟨rfl, rfl, rfl⟩
  | reads r => exact .inl ⟨rfl, rfl, rfl⟩
  | writesNumChannels w hi => exact .inr (.inl ⟨w, hi, rfl⟩)
  | writesSampleInterval w hi => exact .inr (.inr (.inl ⟨w, hi, rfl⟩))
  | writesChSample c w hi => exact .inr (.inr (.inr ⟨c, w, hi, rfl⟩))
  | inits _ => exact .inl (sameStaging_respond (inCompute_sameStaging initEffect_sameStaging s) .ok)
  | steps _ => exact .inl (sameStaging_respond (inCompute_sameStaging stepEffect_sameStaging s) .ok)
  | rejects w _ => exact .inl ⟨rfl, rfl, rfl⟩

/-- Settles O35, by the effects of an instruction: only the three staging writes touch a staging register, each the one
it names. -/
theorem stagingChangesOnlyByItsWrite : Obligations.StagingChangesOnlyByItsWrite := by
  intro i s t hexec
  obtain ⟨f, heffect, -, rfl⟩ := exec_inv hexec
  rcases heffect.staging s with ⟨hnc, hsi, hch⟩ | ⟨w, hi, hf⟩ | ⟨w, hi, hf⟩ | ⟨c, w, hi, hf⟩
  · exact ⟨.inl hnc, .inl hsi, fun c => .inl (by rw [hch])⟩
  · rw [hf]
    exact ⟨.inr ⟨w, hi, rfl⟩, .inl rfl, fun _ => .inl rfl⟩
  · rw [hf]
    exact ⟨.inl rfl, .inr ⟨w, hi, f16OfWord_eq w⟩, fun _ => .inl rfl⟩
  · rw [hf]
    refine ⟨.inl rfl, .inl rfl, fun c' => ?_⟩
    rw [State.respond_chSample, State.setChSample_get]
    by_cases hc : c' = c
    · subst hc
      exact .inr ⟨w, hi, by rw [if_pos rfl, f16OfWord_eq]⟩
    · exact .inl (if_neg hc)

end Sys2Proof.Machine
end

section
/-! PROOFS. The invariant of the machine (`State.wf`): each operation of a command keeps it, so every step does. -/

namespace Sys2Proof.Machine

/-- The invariant but for the control state, which a command leaves IDLE while it runs. -/
structure State.RegistersWf (s : State) : Prop where
  errcode : s.errcode.toNat ≤ 3
  elapsed : nonNegative16 s.elapsed = true
  freqOut : nonNegative16 s.freqOut = true
  peakMag2 : sign16 s.peakMag2 = false
  rb : Memory.wf s.rb = true
  scratch : Scratch.wf s.scratch = true

theorem State.wf_iff (s : State) : s.wf = true ↔ s.control = .idle ∧ s.RegistersWf := by
  simp only [State.wf, Bool.and_eq_true, beq_iff_eq, decide_eq_true_eq, Bool.not_eq_true']
  constructor
  · rintro ⟨⟨⟨⟨⟨⟨hcontrol, herr⟩, hel⟩, hfreq⟩, hmag⟩, hrb⟩, hscr⟩
    exact ⟨hcontrol, herr, hel, hfreq, hmag, hrb, hscr⟩
  · rintro ⟨hcontrol, herr, hel, hfreq, hmag, hrb, hscr⟩
    exact ⟨⟨⟨⟨⟨⟨hcontrol, herr⟩, hel⟩, hfreq⟩, hmag⟩, hrb⟩, hscr⟩

theorem Scratch.wf_iff (w : Scratch) : w.wf = true ↔
    w.acc.length = 1024 ∧ w.td.length = 1024 ∧ w.spec.length = 1024 ∧ w.mag.length = 512 := by
  simp only [Scratch.wf, Bool.and_eq_true, beq_iff_eq, and_assoc]

theorem Scratch.reset_wf : Scratch.reset.wf = true :=
  (Scratch.wf_iff _).mpr ⟨List.length_replicate, List.length_replicate, List.length_replicate, List.length_replicate⟩

theorem State.reset_registersWf : State.reset.RegistersWf where
  errcode := by decide
  elapsed := by decide
  freqOut := by decide
  peakMag2 := by decide
  rb := Memory.wf_reset
  scratch := Scratch.reset_wf

section Preservation

variable {s : State}

/-! ### The parts of STEP and INIT -/

theorem State.RegistersWf.setControl (h : s.RegistersWf) (p : Control) : (s.setControl p).RegistersWf := { h with }

theorem State.RegistersWf.reject (h : s.RegistersWf) {code : BitVec 4} (hcode : code.toNat ≤ 3) :
    (s.reject code).RegistersWf :=
  { h with errcode := hcode }

theorem State.RegistersWf.accept (h : s.RegistersWf) (ready : Bool) : (s.accept ready).RegistersWf :=
  { h with errcode := show errNone.toNat ≤ 3 by decide }

theorem State.RegistersWf.setElapsed (h : s.RegistersWf) {v : F16} (hv : nonNegative16 v = true) :
    (s.setElapsed v).RegistersWf :=
  { h with elapsed := hv }

theorem State.RegistersWf.setResult (h : s.RegistersWf) {freq : F16} (bin : BitVec 9) {mag : F16}
    (hfreq : nonNegative16 freq = true) (hmag : sign16 mag = false) : (s.setResult freq bin mag).RegistersWf :=
  { h with freqOut := hfreq, peakMag2 := hmag }

theorem State.RegistersWf.withRings (h : s.RegistersWf) {t : State} (ht : Memory.wf t.rb = true) :
    (s.withRings t).RegistersWf :=
  { h with rb := ht }

theorem State.RegistersWf.withScratch (h : s.RegistersWf) {t : State} (ht : t.scratch.wf = true) :
    (s.withScratch t).RegistersWf :=
  { h with scratch := ht }

theorem State.RegistersWf.ingest (h : s.RegistersWf) (nc : Word) : (ingest nc s).RegistersWf := by
  rw [ingest_frame]
  exact h.withRings (ingest_wf nc s h.rb)

theorem State.RegistersWf.rbResetAll (h : s.RegistersWf) : (rbResetAll s).RegistersWf := by
  rw [rbResetAll_frame]
  exact h.withRings (rbResetAll_wf s h.rb)

theorem State.RegistersWf.accumulateElapsed (h : s.RegistersWf) {si : F16} (hsi : gt16 si zero16 = true) :
    (accumulateElapsed si s).RegistersWf :=
  h.setElapsed (add16_nonNegative h.elapsed (gt16_zero_cases hsi).1)

theorem State.RegistersWf.subtractInterval (h : s.RegistersWf) (hgate : gateClosed s = false) :
    (subtractInterval s).RegistersWf :=
  h.setElapsed (sub16_one_nonNegative h.elapsed hgate)

theorem channelSpectrum_scratch_wf (c : Channel) (h : s.scratch.wf = true) :
    (channelSpectrum c s).scratch.wf = true := by
  obtain ⟨hacc, -, -, hmag⟩ := (Scratch.wf_iff _).mp h
  refine (Scratch.wf_iff _).mpr ⟨?_, taper_length (rbSnapshot_length c s), refTransform_length _, hmag⟩
  show (List.zipWith add16 s.scratch.acc (spectrumOf c s)).length = 1024
  rw [List.length_zipWith, hacc, spectrumOf, refTransform_length, Nat.min_self]

theorem spectralSum_scratch_wf (nc : Word) (h : s.scratch.wf = true) : (spectralSum nc s).scratch.wf = true := by
  obtain ⟨-, htd, hspec, hmag⟩ := (Scratch.wf_iff _).mp h
  have hzero : (zeroAcc s).scratch.wf = true := (Scratch.wf_iff _).mpr ⟨List.length_replicate, htd, hspec, hmag⟩
  exact foldl_keeps (fun t : State => t.scratch.wf = true) _ (fun t c ht => channelSpectrum_scratch_wf c ht) _ _ hzero

theorem computationPass_scratch_wf (nc : Word) (si : F16) (h : s.scratch.wf = true) :
    (computationPass nc si s).scratch.wf = true := by
  obtain ⟨hacc, htd, hspec, -⟩ := (Scratch.wf_iff _).mp (spectralSum_scratch_wf nc h)
  exact (Scratch.wf_iff _).mpr ⟨hacc, htd, hspec, magnitudes_length 512 _ hacc⟩

theorem State.RegistersWf.computationPass (h : s.RegistersWf) (nc : Word) {si : F16} (hsi : gt16 si zero16 = true) :
    (computationPass nc si s).RegistersWf := by
  obtain ⟨hfreq, -, hmag⟩ := computationPass_results nc si s
  have hlen := magnitudes_spectralSumOf_length nc s
  have hbin : (peak (magnitudes (spectralSumOf nc s))).1 < 512 := hlen ▸ peak_lt (by omega)
  rw [computationPass_frame, hfreq, hmag]
  exact (h.withScratch (computationPass_scratch_wf nc si h.scratch)).setResult _ (frequency_nonNegative hbin hsi)
    (sign16_peak_magnitudes _)

/-! ### Commands -/

theorem State.RegistersWf.initEffect (h : s.RegistersWf) : (initEffect s).RegistersWf := by
  have hzero : nonNegative16 zero16 = true := by decide
  exact ((h.setElapsed hzero).rbResetAll.setResult 0#9 hzero (by decide)).accept false

theorem State.RegistersWf.stepEffect (h : s.RegistersWf) : (stepEffect s).RegistersWf := by
  rcases stepEffect_cases s with ⟨code, hcode, he⟩ | ⟨hnone, -, he⟩ | ⟨hnone, hopen, he⟩
  · rw [he]
    exact h.reject (stepError_le hcode)
  · have hsi := gt16_of_stepError_none hnone
    rw [he]
    exact ((h.ingest _).accumulateElapsed hsi).accept false
  · have hsi := gt16_of_stepError_none hnone
    rw [he]
    exact ((((h.ingest _).accumulateElapsed hsi).subtractInterval hopen).computationPass _ hsi).accept true

/-- A command whose effect keeps the registers well formed ends in IDLE and keeps the invariant. -/
theorem inCompute_wf {effect : State → State} (heffect : ∀ {s : State}, s.RegistersWf → (effect s).RegistersWf)
    (h : s.RegistersWf) : (inCompute effect s).wf = true :=
  (State.wf_iff _).mpr ⟨rfl, (heffect (h.setControl .compute)).setControl .idle⟩

/-! ### Instructions and steps -/

theorem State.respond_wf (r : Response) (h : s.wf = true) : (s.respond r).wf = true := h

theorem InstrEffect.wf {i : Instr} {f : State → State} (h : InstrEffect i f) (hs : s.wf = true) : (f s).wf = true := by
  obtain ⟨hidle, hregs⟩ := (State.wf_iff s).mp hs
  cases h with
  | responds r => exact hs
  | reads r => exact hs
  | writesNumChannels w _ => exact hs
  | writesSampleInterval w _ => exact hs
  | writesChSample c w _ => exact hs
  | inits _ => exact State.respond_wf .ok (inCompute_wf State.RegistersWf.initEffect hregs)
  | steps _ => exact State.respond_wf .ok (inCompute_wf State.RegistersWf.stepEffect hregs)
  | rejects w _ => exact State.respond_wf .ok ((State.wf_iff _).mpr ⟨hidle, hregs.reject (by decide)⟩)

theorem exec_wf {i : Instr} {t : State} (hs : s.wf = true) (hexec : exec i s = .next t) : t.wf = true := by
  obtain ⟨f, heffect, -, rfl⟩ := exec_inv hexec
  exact heffect.wf hs

theorem resetBlock_wf : (resetBlock s).wf = true := (State.wf_iff _).mpr ⟨rfl, { State.reset_registersWf with }⟩

end Preservation

/-- Settles O32, by the cases of a step: a reset answers the reset registers, an instruction keeps the invariant
(`exec_wf`), and every other step changes only the queue and the responses. -/
theorem everyStepKeepsWellFormedness : Obligations.EveryStepKeepsWellFormedness := by
  intro s t hs hstep
  rcases step_cases hstep with ⟨-, rfl⟩ | ⟨rest, -, rfl⟩ | ⟨a, rest, -, -, rfl⟩ | ⟨a, rest, i, -, -, -, hexec⟩ |
    ⟨a, rest, -, -, -, rfl⟩
  · exact hs
  · exact resetBlock_wf
  · exact hs
  · have hpending : (s.setPending rest).wf = true := hs
    exact exec_wf hpending hexec
  · exact hs

end Sys2Proof.Machine
end

section
/-! PROOFS. The working memories reach no response: every operation sends states equal but for them to states equal
but for them (10_state.md R37). -/

namespace Sys2Proof.Machine

theorem sameButScratch_iff (s t : State) : sameButScratch s t ↔ ∃ w, t = s.setScratch w :=
  ⟨fun h => ⟨_, h.symm⟩, by rintro ⟨w, rfl⟩; rfl⟩

theorem readRegister_setScratch (r : Register) (s : State) (w : Scratch) :
    readRegister r (s.setScratch w) = readRegister r s := by
  cases r <;> rfl

/-! ### The operations of a command, run from two such states -/

theorem ingest_setScratch (nc : Word) (s : State) (w : Scratch) :
    ingest nc (s.setScratch w) = (ingest nc s).setScratch w :=
  List.foldl_hom (fun t : State => t.setScratch w) fun _ _ => rfl

theorem rbResetAll_setScratch (s : State) (w : Scratch) : rbResetAll (s.setScratch w) = (rbResetAll s).setScratch w :=
  List.foldl_hom (fun t : State => t.setScratch w) fun _ _ => rfl

theorem initEffect_sameButScratch (s : State) (w : Scratch) :
    sameButScratch (initEffect s) (initEffect (s.setScratch w)) := by
  have hreset : rbResetAll ((s.setScratch w).setElapsed zero16) = (rbResetAll (s.setElapsed zero16)).setScratch w :=
    rbResetAll_setScratch (s.setElapsed zero16) w
  unfold initEffect
  rw [hreset]
  rfl

/-- A pass computes its results from the rings alone, since it writes ACC, TD, SPEC and MAG before it reads them. -/
theorem computationPass_sameButScratch (nc : Word) (si : F16) (s : State) (w : Scratch) :
    sameButScratch (computationPass nc si s) (computationPass nc si (s.setScratch w)) := by
  obtain ⟨hfreq, hbin, hmag⟩ := computationPass_results nc si s
  obtain ⟨hfreq', hbin', hmag'⟩ := computationPass_results nc si (s.setScratch w)
  have hsum : spectralSumOf nc (s.setScratch w) = spectralSumOf nc s := rfl
  rw [computationPass_frame nc si s, computationPass_frame nc si (s.setScratch w), hfreq, hbin, hmag, hfreq', hbin',
    hmag', hsum]
  rfl

theorem gateEffect_sameButScratch (nc : Word) (si : F16) (s : State) (w : Scratch) :
    sameButScratch (gateEffect nc si s) (gateEffect nc si (s.setScratch w)) := by
  have hgate : gateClosed (s.setScratch w) = gateClosed s := rfl
  unfold gateEffect
  rw [hgate]
  split
  · rfl
  · obtain ⟨w', hpass⟩ := (sameButScratch_iff _ _).mp (computationPass_sameButScratch nc si (subtractInterval s) w)
    have hsub : subtractInterval (s.setScratch w) = (subtractInterval s).setScratch w := rfl
    rw [hsub, hpass]
    rfl

theorem stepEffect_sameButScratch (s : State) (w : Scratch) :
    sameButScratch (stepEffect s) (stepEffect (s.setScratch w)) := by
  simp only [stepEffect, State.setScratch_numChannels, State.setScratch_sampleInterval]
  cases stepError s.numChannels s.sampleInterval with
  | some code => rfl
  | none =>
    simp only [stepAccepted, ingest_setScratch]
    exact gateEffect_sameButScratch _ _ _ w

theorem inCompute_sameButScratch {effect : State → State}
    (heffect : ∀ s w, sameButScratch (effect s) (effect (s.setScratch w))) (s : State) (w : Scratch) :
    sameButScratch (inCompute effect s) (inCompute effect (s.setScratch w)) :=
  congrArg (State.setControl · .idle) (heffect (s.setControl .compute) w)

theorem sameButScratch_respond {s t : State} (h : sameButScratch s t) (r : Response) :
    sameButScratch (s.respond r) (t.respond r) :=
  congrArg (State.respond · r) h

/-! ### Instructions, steps and runs -/

theorem InstrEffect.sameButScratch {i : Instr} {f : State → State} (h : InstrEffect i f) (s : State) (w : Scratch) :
    sameButScratch (f s) (f (s.setScratch w)) := by
  cases h with
  | responds r => rfl
  | reads r =>
    show Machine.sameButScratch (s.answer r) ((s.setScratch w).answer r)
    rw [State.answer, State.answer, readRegister_setScratch]
    rfl
  | writesNumChannels v _ => rfl
  | writesSampleInterval v _ => rfl
  | writesChSample c v _ => rfl
  | inits _ => exact sameButScratch_respond (inCompute_sameButScratch initEffect_sameButScratch s w) .ok
  | steps _ => exact sameButScratch_respond (inCompute_sameButScratch stepEffect_sameButScratch s w) .ok
  | rejects v _ => rfl

theorem exec_sameButScratch {i : Instr} {s s' : State} (w : Scratch) (hexec : exec i s = .next s') :
    ∃ t', exec i (s.setScratch w) = .next t' ∧ sameButScratch s' t' := by
  obtain ⟨f, heffect, hf, rfl⟩ := exec_inv hexec
  exact ⟨f (s.setScratch w), hf _, heffect.sameButScratch s w⟩

theorem step_sameButScratch {s t s' : State} (h : sameButScratch s t) (hstep : step s = .next s') :
    ∃ t', step t = .next t' ∧ sameButScratch s' t' := by
  obtain ⟨w, rfl⟩ := (sameButScratch_iff s t).mp h
  rcases step_cases hstep with ⟨hp, rfl⟩ | ⟨rest, hp, rfl⟩ | ⟨a, rest, hp, hc, rfl⟩ | ⟨a, rest, i, hp, hc, hd, hexec⟩ |
    ⟨a, rest, hp, hc, hd, rfl⟩
  · exact ⟨_, step_of_empty hp, rfl⟩
  · exact ⟨_, step_of_reset hp, rfl⟩
  · exact ⟨_, step_of_compute hp hc, rfl⟩
  · rw [step_of_decoded (s := s.setScratch w) hp hc hd]
    exact exec_sameButScratch w hexec
  · exact ⟨_, step_of_undecoded hp hc hd, rfl⟩

theorem responses_of_sameButScratch {s t : State} (h : sameButScratch s t) : s.responses = t.responses :=
  by obtain ⟨w, rfl⟩ := (sameButScratch_iff s t).mp h; rfl

theorem observe_sameButScratch (inputs : List Input) :
    ∀ {s t : State}, sameButScratch s t → observe s inputs = observe t inputs := by
  induction inputs with
  | nil => exact responses_of_sameButScratch
  | cons x xs ih =>
    intro s t h
    have hpending : sameButScratch (s.setPending [x]) (t.setPending [x]) := congrArg (State.setPending · [x]) h
    obtain ⟨s', hs'⟩ := step_answers_next (s.setPending [x])
    obtain ⟨t', ht', hsame⟩ := step_sameButScratch hpending hs'
    rw [observe_cons xs hs', observe_cons xs ht']
    exact ih hsame

/-- Settles O33: two runs in step keep the states equal but for the working memories (`step_sameButScratch`), and the
responses of a whole run follow by induction on the inputs. -/
theorem responsesDoNotDependOnScratch : Obligations.ResponsesDoNotDependOnScratch := by
  refine ⟨fun s t s' h hstep => ?_, fun s t inputs h => observe_sameButScratch inputs h⟩
  obtain ⟨t', ht', hsame⟩ := step_sameButScratch h hstep
  exact ⟨t', ht', hsame, responses_of_sameButScratch hsame⟩

end Sys2Proof.Machine
end

section
/-! PROOFS. The bus (20_memory.md): what one access to the block does (R63, R69, R70), and how addresses, byte lanes and
bursts map to accesses (R60, R64, R65). -/

namespace Sys2Proof.Machine

/-! ### Decoding by width, direction and offset (R63, R81) -/

theorem decode_of_size_ne {a : Access} (h : a.size ≠ 4) : decode a = .error .notWholeWord := if_pos h

theorem decode_read {a : Access} (hsize : a.size = 4) (hdir : a.dir = .read) : decode a = .ok (decodeRead a.off) := by
  simp [decode, hsize, hdir]

theorem decode_write {a : Access} (hsize : a.size = 4) (hdir : a.dir = .write) :
    decode a = .ok (decodeWrite a.off a.data) := by
  simp [decode, hsize, hdir]

theorem registerAt_of_unaligned {off : Offset} (h : off.extractLsb' 0 2 ≠ 0#2) : registerAt off = none := if_pos h

theorem decodeWrite_of_no_register {off : Offset} (h : registerAt off = none) (w : Word) :
    decodeWrite off w = .wrRoOrReserved off w := by
  rw [decodeWrite, h]

/-- The register an access reaches: the one at its offset, and none for an access that is not a whole word. -/
def accessedRegister (a : Access) : Option Register := if a.size = 4 then registerAt a.off else none

theorem accessedRegister_of_size {a : Access} (h : a.size = 4) : accessedRegister a = registerAt a.off := if_pos h

theorem accessedRegister_of_size_ne {a : Access} (h : a.size ≠ 4) : accessedRegister a = none := if_neg h

theorem accessedRegister_of_unaligned {a : Access} (h : a.off.extractLsb' 0 2 ≠ 0#2) : accessedRegister a = none := by
  rw [accessedRegister, registerAt_of_unaligned h, ite_self]

/-! ### Reads (R69) -/

/-- What a read gets: the word of the register it reaches, and BUS_ERROR where it reaches none. -/
def readResponse : Option Register → State → Response
  | some r, s => .data (readRegister r s)
  | none, _ => .busError

theorem exec_decodeRead (off : Offset) (s : State) :
    exec (decodeRead off) s = .next (s.respond (readResponse (registerAt off) s)) := by
  unfold decodeRead
  cases registerAt off with
  | none => rfl
  | some r => cases r <;> rfl

theorem readResponse_setPending (r : Option Register) (s : State) (q : List Input) :
    readResponse r (s.setPending q) = readResponse r s := by
  cases r with
  | none => rfl
  | some r => cases r <;> rfl

theorem readResponse_respond (r : Option Register) (s : State) (given : Response) :
    readResponse r (s.respond given) = readResponse r s := by
  cases r with
  | none => rfl
  | some r => cases r <;> rfl

theorem step_of_size_ne {s : State} {a : Access} {rest : List Input} (hp : s.pending = .access a :: rest)
    (hc : s.control = .idle) (hsize : a.size ≠ 4) : step s = .next (s.setPending rest).raiseBusError :=
  step_of_undecoded hp hc (decode_of_size_ne hsize)

/-- A read takes its access from the queue, answers it and changes nothing else. -/
theorem step_of_read {s : State} {a : Access} {rest : List Input} (hp : s.pending = .access a :: rest)
    (hc : s.control = .idle) (hdir : a.dir = .read) :
    step s = .next ((s.setPending rest).respond (readResponse (accessedRegister a) s)) := by
  by_cases hsize : a.size = 4
  · rw [step_of_decoded hp hc (decode_read hsize hdir), exec_decodeRead, accessedRegister_of_size hsize,
      readResponse_setPending]
  · rw [step_of_size_ne hp hc hsize, accessedRegister_of_size_ne hsize]
    rfl

/-- Settles O21: the first of the two reads changes only the queue and the responses, which no read's answer depends
on. -/
theorem repeatedReadsAgree : Obligations.RepeatedReadsAgree := by
  intro s a rest hp hc hdir
  refine ⟨_, step_of_read hp hc hdir, ?_⟩
  have hsecond := step_of_read
    (s := (s.setPending (.access a :: rest)).respond (readResponse (accessedRegister a) s)) rfl hc hdir
  rw [readResponse_respond, readResponse_setPending] at hsecond
  exact hsecond

/-! ### Steps and refused accesses (R63, R70) -/

/-- Settles O6: it is the equation of a step whose access decodes. -/
theorem stepRunsDecodedInstruction : Obligations.StepRunsDecodedInstruction :=
  fun _ _ _ _ hp hc hd => step_of_decoded hp hc hd

/-- An access that reaches no register is answered BUS_ERROR, a read and a write alike. -/
theorem step_of_no_register {s : State} {a : Access} {rest : List Input} (hp : s.pending = .access a :: rest)
    (hc : s.control = .idle) (hreg : accessedRegister a = none) :
    step s = .next (s.setPending rest).raiseBusError := by
  cases hdir : a.dir with
  | read =>
    rw [step_of_read hp hc hdir, hreg]
    rfl
  | write =>
    by_cases hsize : a.size = 4
    · rw [accessedRegister_of_size hsize] at hreg
      rw [step_of_decoded hp hc (decode_write hsize hdir), decodeWrite_of_no_register hreg]
      rfl
    · exact step_of_size_ne hp hc hsize

/-- Settles O8: for both reasons the access reaches no register. -/
theorem unsupportedAccessGetsBusError : Obligations.UnsupportedAccessGetsBusError := by
  intro s a rest hp hc hbad
  have hreg : accessedRegister a = none := hbad.elim accessedRegister_of_size_ne accessedRegister_of_unaligned
  exact step_of_no_register hp hc hreg

/-! ### What only a command changes (R69) -/

/-- The two states hold the same estimator: all but the staging registers and the model's own two lists. -/
def sameEstimator (s t : State) : Prop :=
  t.rb = s.rb ∧ t.cur = s.cur ∧ t.elapsed = s.elapsed ∧ t.freqOut = s.freqOut ∧ t.peakBin = s.peakBin ∧
    t.peakMag2 = s.peakMag2 ∧ t.ready = s.ready ∧ t.errcode = s.errcode ∧ t.scratch = s.scratch ∧ t.control = s.control

theorem sameEstimator_refl (s : State) : sameEstimator s s :=
  ⟨rfl, rfl, rfl, rfl, rfl, rfl, rfl, rfl, rfl, rfl⟩

/-- The effect of an instruction keeps the estimator, or the instruction is INIT, STEP or a CMD write. -/
theorem InstrEffect.estimator {i : Instr} {f : State → State} (h : InstrEffect i f) (s : State) :
    sameEstimator s (f s) ∨ i = .init ∨ i = .step ∨ ∃ w, i = .wrCmd w := by
  cases h with
  | responds r => exact .inl (sameEstimator_refl s)
  | reads r => exact .inl (sameEstimator_refl s)
  | writesNumChannels w _ => exact .inl (sameEstimator_refl s)
  | writesSampleInterval w _ => exact .inl (sameEstimator_refl s)
  | writesChSample c w _ => exact .inl (sameEstimator_refl s)
  | inits hi => exact .inr (hi.imp id fun hw => .inr ⟨1, hw⟩)
  | steps hi => exact .inr (.inr (hi.imp id fun hw => ⟨2, hw⟩))
  | rejects w hi => exact .inr (.inr (.inr ⟨w, hi⟩))

/-- Settles O34, by the effects of an instruction. -/
theorem onlyCommandsChangeTheEstimator : Obligations.OnlyCommandsChangeTheEstimator := by
  intro i s t hexec hinit hstep hcmd
  obtain ⟨f, heffect, -, rfl⟩ := exec_inv hexec
  rcases heffect.estimator s with hsame | hi | hi | ⟨w, hi⟩
  · exact hsame
  · exact absurd hi hinit
  · exact absurd hi hstep
  · exact absurd hi (hcmd w)

/-! ### Addresses and byte lanes (R60, R65) -/

theorem routeAddress_busAddress (off : Offset) : routeAddress (busAddress off) = some off := by
  have hoff : off.toNat < 0x8000 := off.isLt
  unfold routeAddress busAddress
  rw [if_pos (by omega), Nat.add_sub_cancel_left, BitVec.ofNat_toNat, BitVec.setWidth_eq]

theorem routeAddress_of_outside {addr : Nat} (h : ¬ (Config.baseAddr ≤ addr ∧ addr < Config.baseAddr + 0x8000)) :
    routeAddress addr = none := if_neg h

theorem baseAddr_aligned : Config.baseAddr % 0x8000 = 0 := by
  unfold Config.baseAddr
  exact Nat.mul_mod_left _ _

/-- The lanes are four adjacent byte fields of the word, so each append joins two fields into one. -/
theorem wordOfLanes_byteLane (w : Word) :
    wordOfLanes (byteLane w 0) (byteLane w 1) (byteLane w 2) (byteLane w 3) = w := by
  show w.extractLsb' 24 8 ++ w.extractLsb' 16 8 ++ w.extractLsb' 8 8 ++ w.extractLsb' 0 8 = w
  rw [BitVec.extractLsb'_append_extractLsb'_eq_extractLsb', BitVec.extractLsb'_append_extractLsb'_eq_extractLsb',
    BitVec.extractLsb'_append_extractLsb'_eq_extractLsb']
  · exact BitVec.extractLsb'_eq_self
  all_goals rfl

/-- Settles O59, from the round trip of each part. -/
theorem addressesAndLanesRoundTrip : Obligations.AddressesAndLanesRoundTrip :=
  ⟨routeAddress_busAddress, fun _ => routeAddress_of_outside, baseAddr_aligned, wordOfLanes_byteLane⟩

/-! ### Bursts (R64) -/

/-- One beat of a burst: a whole 32-bit access. -/
def beat (dir : Direction) (off : Nat) (w : Word) : Input :=
  .access { dir := dir, size := 4, off := BitVec.ofNat 15 off, data := w }

/-- A burst inside the aperture has a beat per word, each 4 above the one before. -/
theorem burst_eq_mapIdx (dir : Direction) (ws : List Word) :
    ∀ off : Nat, off + 4 * ws.length ≤ 0x8000 → burst dir off ws = ws.mapIdx fun k w => beat dir (off + 4 * k) w := by
  induction ws with
  | nil => intro off _; rfl
  | cons w ws ih =>
    intro off hfit
    rw [List.length_cons] at hfit
    have hoff : ∀ k, off + 4 + 4 * k = off + 4 * (k + 1) := fun k => by ring
    rw [burst, if_pos (by omega), ih (off + 4) (by omega), List.mapIdx_cons]
    simp only [hoff]
    rfl

/-- Settles O60, from the burst as the list of its beats. -/
theorem burstIsItsBeats : Obligations.BurstIsItsBeats := by
  intro dir off ws hfit
  rw [burst_eq_mapIdx dir ws off hfit]
  refine ⟨List.length_mapIdx, fun k hk => ?_⟩
  rw [List.getElem?_mapIdx, List.getD_eq_getElem ws _ hk, List.getElem?_eq_getElem hk]
  rfl

end Sys2Proof.Machine
end

section
/-! SUPPORT. The register map (30_encoding.md R80, R92, R93): where each register is, what the decoder finds at an
offset, and the row of instructions each register takes in either direction. -/

namespace Sys2Proof

open Machine

/-! ### Bit fields of an offset or a word -/

/-- x[lo+n-1:lo] as a number. -/
theorem field_toNat {width : Nat} (x : BitVec width) (lo n : Nat) :
    (x.extractLsb' lo n).toNat = x.toNat / 2 ^ lo % 2 ^ n := by
  rw [BitVec.extractLsb'_toNat, Nat.shiftRight_eq_div_pow]

theorem field_eq_iff {width : Nat} (x : BitVec width) (lo n : Nat) (v : BitVec n) :
    x.extractLsb' lo n = v ↔ x.toNat / 2 ^ lo % 2 ^ n = v.toNat := by
  rw [← BitVec.toNat_inj, field_toNat]

/-- An offset is aligned when its two low bits are 0 (R81). -/
theorem aligned_iff (off : Offset) : off.extractLsb' 0 2 = 0#2 ↔ off.toNat % 4 = 0 := by
  rw [field_eq_iff]
  norm_num

/-! ### The offsets of the windows -/

theorem offset_chSample_toNat (c : Channel) : (Register.offset (.chSample c)).toNat = 0x0080 + 4 * c.val := by
  have hc := c.isLt
  exact Nat.mod_eq_of_lt (by omega)

theorem offset_rbCursor_toNat (c : Channel) : (Register.offset (.rbCursor c)).toNat = 0x0100 + 4 * c.val := by
  have hc := c.isLt
  exact Nat.mod_eq_of_lt (by omega)

theorem offset_rbSnap_toNat (c : Channel) (j : Slot) :
    (Register.offset (.rbSnap c j)).toNat = 0x1000 + 0x400 * c.val + 4 * j.val := by
  have hc := c.isLt
  have hj := j.isLt
  exact Nat.mod_eq_of_lt (by omega)

/-- The offset of RB_SNAP[c][j] is the one whose three fields are c + 4, j and 0 (R92). -/
theorem offset_rbSnap_eq_iff (off : Offset) (c : Channel) (j : Slot) :
    Register.offset (.rbSnap c j) = off ↔
      (off.extractLsb' 10 5).toNat = c.val + 4 ∧ (off.extractLsb' 2 8).toNat = j.val ∧ off.extractLsb' 0 2 = 0#2 := by
  have hc := c.isLt
  have hj := j.isLt
  have hoff := off.isLt
  rw [← BitVec.toNat_inj, offset_rbSnap_toNat, field_toNat, field_toNat, aligned_iff]
  norm_num only
  omega

theorem offset_aligned (r : Register) : r.offset.toNat % 4 = 0 := by
  cases r with
  | chSample c => rw [offset_chSample_toNat]; omega
  | rbCursor c => rw [offset_rbCursor_toNat]; omega
  | rbSnap c j => rw [offset_rbSnap_toNat]; omega
  | _ => rfl

/-- The ranges of R93. -/
theorem reservedOffset_iff (off : Offset) : reservedOffset off = true ↔ off.toNat % 4 = 0 ∧
    (0x0028 ≤ off.toNat ∧ off.toNat ≤ 0x007C ∨ 0x00D0 ≤ off.toNat ∧ off.toNat ≤ 0x00FC ∨
      0x0150 ≤ off.toNat ∧ off.toNat ≤ 0x0FFC ∨
      (0x1000 ≤ off.toNat ∧ off.toNat < 0x6000) ∧ 0x3E8 ≤ off.toNat % 0x400 ∨
      0x6000 ≤ off.toNat ∧ off.toNat ≤ 0x7FFC) := by
  simp only [reservedOffset, Bool.and_eq_true, Bool.or_eq_true, decide_eq_true_eq, beq_iff_eq, or_assoc]

theorem offset_not_reserved (r : Register) : ¬ reservedOffset r.offset = true := by
  cases r with
  | chSample c =>
    have hc := c.isLt
    rw [reservedOffset_iff, offset_chSample_toNat]
    omega
  | rbCursor c =>
    have hc := c.isLt
    rw [reservedOffset_iff, offset_rbCursor_toNat]
    omega
  | rbSnap c j =>
    have hc := c.isLt
    have hj := j.isLt
    rw [reservedOffset_iff, offset_rbSnap_toNat]
    omega
  | _ => decide

/-! ### The decoder's windows -/

theorem channelField_cases (off : Offset) :
    (∃ c : Channel, channelField off = some c ∧ off.toNat / 4 % 32 = c.val) ∨
    (channelField off = none ∧ 20 ≤ off.toNat / 4 % 32) := by
  have hfield : (off.extractLsb' 2 5).toNat = off.toNat / 4 % 32 := field_toNat off 2 5
  unfold channelField
  split
  · exact .inl ⟨_, rfl, hfield.symm⟩
  · exact .inr ⟨rfl, by omega⟩

theorem snapField_cases (off : Offset) :
    (∃ (c : Channel) (j : Slot), snapField off = some (.rbSnap c j) ∧
      off.toNat / 1024 % 32 = c.val + 4 ∧ off.toNat / 4 % 256 = j.val) ∨
    (snapField off = none ∧
      (off.toNat / 1024 % 32 < 4 ∨ 24 ≤ off.toNat / 1024 % 32 ∨ 250 ≤ off.toNat / 4 % 256)) := by
  have hchannel : (off.extractLsb' 10 5).toNat = off.toNat / 1024 % 32 := field_toNat off 10 5
  have hslot : (off.extractLsb' 2 8).toNat = off.toNat / 4 % 256 := field_toNat off 2 8
  unfold snapField
  split
  · split
    · exact .inl ⟨_, _, rfl, by dsimp only; omega, hslot.symm⟩
    · exact .inr ⟨rfl, by omega⟩
  · exact .inr ⟨rfl, by omega⟩

/-! ### What is at an offset -/

/-- The ten registers below the windows fill the aligned offsets there. -/
theorem registerAt_below_windows {off : Offset} (haligned : off.toNat % 4 = 0) (hlow : off.toNat < 0x28) :
    ∃ r, registerAt off = some r ∧ r.offset = off := by
  have hall : ∀ k : Fin 10,
      (registerAt (BitVec.ofNat 15 (4 * k.val))).map Register.offset = some (BitVec.ofNat 15 (4 * k.val)) := by decide
  have hoff : BitVec.ofNat 15 (4 * (off.toNat / 4)) = off := by
    rw [show 4 * (off.toNat / 4) = off.toNat by omega, BitVec.ofNat_toNat, BitVec.setWidth_eq]
  have hmap := hall ⟨off.toNat / 4, by omega⟩
  rw [hoff] at hmap
  exact Option.map_eq_some_iff.mp hmap

/-- From 0x0028 on the decoder looks at the three windows only. -/
theorem registerAt_from_windows {off : Offset} (haligned : off.toNat % 4 = 0) (hhigh : 0x28 ≤ off.toNat) :
    registerAt off =
      if off.toNat / 128 = 1 then (channelField off).map .chSample
      else if off.toNat / 128 = 2 then (channelField off).map .rbCursor
      else snapField off := by
  have hoff := off.isLt
  have hne : ∀ k : Offset, k.toNat < 0x28 → off ≠ k := by
    rintro k hk rfl
    omega
  have hwindow : ∀ v : BitVec 8, off.extractLsb' 7 8 = v ↔ off.toNat / 128 = v.toNat := by
    intro v
    rw [field_eq_iff]
    norm_num only
    omega
  rw [registerAt, if_neg (not_not.mpr ((aligned_iff off).mpr haligned))]
  iterate 10 rw [if_neg (hne _ (by decide))]
  simp only [hwindow]
  rfl

/-- The decoder answers the register that has the offset, and none only where R81 and R93 say so. -/
theorem registerAt_cases (off : Offset) :
    (∃ r, registerAt off = some r ∧ r.offset = off) ∨
    (registerAt off = none ∧ (off.toNat % 4 ≠ 0 ∨ reservedOffset off = true)) := by
  by_cases haligned : off.toNat % 4 = 0
  swap
  · exact .inr ⟨registerAt_of_unaligned (mt (aligned_iff off).mp haligned), .inl haligned⟩
  by_cases hlow : off.toNat < 0x28
  · exact .inl (registerAt_below_windows haligned hlow)
  have hoff := off.isLt
  rw [registerAt_from_windows haligned (by omega), reservedOffset_iff]
  split_ifs with hsample hcursor
  · rcases channelField_cases off with ⟨c, hfield, hc⟩ | ⟨hfield, hc⟩
    · refine .inl ⟨.chSample c, by rw [hfield]; rfl, BitVec.eq_of_toNat_eq ?_⟩
      rw [offset_chSample_toNat]
      omega
    · exact .inr ⟨by rw [hfield]; rfl, by omega⟩
  · rcases channelField_cases off with ⟨c, hfield, hc⟩ | ⟨hfield, hc⟩
    · refine .inl ⟨.rbCursor c, by rw [hfield]; rfl, BitVec.eq_of_toNat_eq ?_⟩
      rw [offset_rbCursor_toNat]
      omega
    · exact .inr ⟨by rw [hfield]; rfl, by omega⟩
  · rcases snapField_cases off with ⟨c, j, hfield, hc, hj⟩ | ⟨hfield, hbad⟩
    · refine .inl ⟨.rbSnap c j, hfield, BitVec.eq_of_toNat_eq ?_⟩
      rw [offset_rbSnap_toNat]
      omega
    · exact .inr ⟨hfield, by omega⟩

/-- The decoder finds each register at its own offset. -/
theorem registerAt_offset (r : Register) : registerAt r.offset = some r := by
  cases r with
  | chSample c => revert c; decide
  | rbCursor c => revert c; decide
  | rbSnap c j =>
    obtain ⟨hc, hj, -⟩ := (offset_rbSnap_eq_iff _ c j).mp rfl
    have hhigh := offset_rbSnap_toNat c j
    rw [registerAt_from_windows (offset_aligned _) (by omega), if_neg (by omega), if_neg (by omega)]
    simp only [snapField, hc, hj, Nat.add_sub_cancel, Nat.le_add_left, c.isLt, j.isLt, and_self, dif_pos]
  | _ => rfl

theorem registerAt_eq_some_iff {off : Offset} {r : Register} : registerAt off = some r ↔ r.offset = off := by
  constructor
  · intro h
    rcases registerAt_cases off with ⟨r', hr', hoff⟩ | ⟨hnone, -⟩
    · cases h.symm.trans hr'
      exact hoff
    · cases h.symm.trans hnone
  · rintro rfl
    exact registerAt_offset r

theorem registerAt_eq_none_iff {off : Offset} :
    registerAt off = none ↔ off.toNat % 4 ≠ 0 ∨ reservedOffset off = true := by
  rcases registerAt_cases off with ⟨r, hr, rfl⟩ | ⟨hnone, hbad⟩
  · simp [hr, offset_aligned r, offset_not_reserved r]
  · exact iff_of_true hnone hbad

/-! ### The instruction of a register (42_commands.md R160, R161) -/

/-- The row of a read of a register. -/
def Register.readInstr : Register → Instr
  | .id => .rdId
  | .config => .rdConfig
  | .cmd => .rdCmd
  | .status => .rdStatus
  | .numChannels => .rdNumChannels
  | .sampleInterval => .rdSampleInterval
  | .freqOut => .rdFreqOut
  | .peakBin => .rdPeakBin
  | .peakMag2 => .rdPeakMag2
  | .elapsed => .rdElapsed
  | .chSample c => .rdChSample c
  | .rbCursor c => .rdRbCursor c
  | .rbSnap c j => .rdRbSnap c j

/-- The row of a write to a register. -/
def Register.writeInstr (w : Word) : Register → Instr
  | .cmd => decodeCommand w
  | .numChannels => .wrNumChannels w
  | .sampleInterval => .wrSampleInterval w
  | .chSample c => .wrChSample c w
  | r => .wrRoOrReserved r.offset w

theorem decodeRead_offset (r : Register) : decodeRead r.offset = r.readInstr := by
  rw [decodeRead, registerAt_offset]
  cases r <;> rfl

theorem decodeRead_of_no_register {off : Offset} (h : registerAt off = none) : decodeRead off = .rdReserved off := by
  rw [decodeRead, h]

theorem decodeWrite_offset (r : Register) (w : Word) : decodeWrite r.offset w = r.writeInstr w := by
  rw [decodeWrite, registerAt_offset]
  cases r <;> rfl

theorem decode_rd (off : Offset) : decode (.rd off) = .ok (decodeRead off) := rfl

theorem decode_wr (off : Offset) (w : Word) : decode (.wr off w) = .ok (decodeWrite off w) := rfl

theorem decode_rd_offset (r : Register) : decode (.rd r.offset) = .ok r.readInstr := by
  rw [decode_rd, decodeRead_offset]

theorem decode_wr_offset (r : Register) (w : Word) : decode (.wr r.offset w) = .ok (r.writeInstr w) := by
  rw [decode_wr, decodeWrite_offset]

theorem writeInstr_of_readOnly {r : Register} (h : readOnlyRegister r = true) (w : Word) :
    r.writeInstr w = .wrRoOrReserved r.offset w := by
  cases r with
  | cmd | numChannels | sampleInterval | chSample => cases h
  | _ => rfl

/-! ### Command words (30_encoding.md R85, R86) -/

theorem wrCmd_wellFormed_iff (w : Word) : (Instr.wrCmd w).wellFormed = true ↔ w ≠ 0#32 ∧ w ≠ 1#32 ∧ w ≠ 2#32 := by
  simp only [Instr.wellFormed, Bool.and_eq_true, bne_iff_ne, and_assoc]
  rfl

theorem decodeCommand_of_reserved {w : Word} (h : (Instr.wrCmd w).wellFormed = true) : decodeCommand w = .wrCmd w := by
  obtain ⟨h0, h1, h2⟩ := (wrCmd_wellFormed_iff w).mp h
  rw [decodeCommand, if_neg h0, if_neg h1, if_neg h2]

/-- A command word is one of the three commands or a reserved word. -/
theorem decodeCommand_cases (w : Word) :
    w = 0#32 ∨ w = 1#32 ∨ w = 2#32 ∨ (Instr.wrCmd w).wellFormed = true := by
  rw [wrCmd_wellFormed_iff]
  tauto

/-! ### Well-formedness by the register at an offset -/

theorem isReadableOffset_iff (off : Offset) : isReadableOffset off = true ↔ registerAt off ≠ none := by
  have hoff := off.isLt
  rw [Ne, registerAt_eq_none_iff, reservedOffset_iff]
  simp only [isReadableOffset, Bool.and_eq_true, Bool.or_eq_true, decide_eq_true_eq, beq_iff_eq]
  omega

theorem isWritableOffset_iff (off : Offset) : isWritableOffset off = true ↔
    off.toNat = 0x0008 ∨ off.toNat = 0x0010 ∨ off.toNat = 0x0014 ∨
      (off.toNat % 4 = 0 ∧ 0x0080 ≤ off.toNat) ∧ off.toNat ≤ 0x00CC := by
  simp only [isWritableOffset, Bool.and_eq_true, Bool.or_eq_true, decide_eq_true_eq, beq_iff_eq, or_assoc]

theorem isWritableOffset_offset (r : Register) : isWritableOffset r.offset = !readOnlyRegister r := by
  cases r with
  | chSample c =>
    have hc := c.isLt
    show _ = true
    rw [isWritableOffset_iff, offset_chSample_toNat]
    omega
  | rbCursor c =>
    show _ = false
    rw [← Bool.not_eq_true, isWritableOffset_iff, offset_rbCursor_toNat]
    omega
  | rbSnap c j =>
    show _ = false
    rw [← Bool.not_eq_true, isWritableOffset_iff, offset_rbSnap_toNat]
    omega
  | _ => rfl

theorem not_isWritableOffset_of_no_register {off : Offset} (h : registerAt off = none) :
    isWritableOffset off = false := by
  rw [registerAt_eq_none_iff, reservedOffset_iff] at h
  rw [← Bool.not_eq_true, isWritableOffset_iff]
  omega

end Sys2Proof
end

section
/-! PROOFS. The encoding (30_encoding.md R80, R81, R92, R93, R96): the register map, the two round trips between
accesses and instructions, and the written-out accesses. -/

namespace Sys2Proof

open Machine

/-! ### The register map -/

/-- Settles O3, from what the decoder finds at a register's offset and at an offset of none. -/
theorem registerMapMatchesEachOffsetOnce : Obligations.RegisterMapMatchesEachOffsetOnce :=
  ⟨registerAt_offset, fun _ _ => registerAt_eq_some_iff.mp, fun _ => registerAt_eq_none_iff⟩

/-! ### From an instruction to its access and back -/

theorem decodeWrite_of_not_writable {off : Offset} (h : isWritableOffset off = false) (w : Word) :
    decodeWrite off w = .wrRoOrReserved off w := by
  cases hreg : registerAt off with
  | none => exact decodeWrite_of_no_register hreg w
  | some r =>
    obtain rfl := registerAt_eq_some_iff.mp hreg
    rw [isWritableOffset_offset, Bool.not_eq_false'] at h
    rw [decodeWrite_offset, writeInstr_of_readOnly h]

theorem decodeRead_of_not_readable {off : Offset} (h : isReadableOffset off = false) :
    decodeRead off = .rdReserved off := by
  rw [← Bool.not_eq_true, isReadableOffset_iff, not_not] at h
  exact decodeRead_of_no_register h

/-- Settles O1: a register's row is found again at its offset, a command word by its exact match, and a reserved row by
its well-formedness, which leaves its offset to no other row. -/
theorem decodeOfEncodeIsIdentity : Obligations.DecodeOfEncodeIsIdentity := by
  intro i hwf
  cases i with
  | nop => exact decode_wr_offset .cmd 0#32
  | init => exact decode_wr_offset .cmd 1#32
  | step => exact decode_wr_offset .cmd 2#32
  | wrCmd w => exact (decode_wr_offset .cmd w).trans (congrArg Except.ok (decodeCommand_of_reserved hwf))
  | wrNumChannels w => exact decode_wr_offset .numChannels w
  | wrSampleInterval w => exact decode_wr_offset .sampleInterval w
  | wrChSample c w => exact decode_wr_offset (.chSample c) w
  | wrRoOrReserved off w => exact congrArg Except.ok (decodeWrite_of_not_writable ((Bool.not_eq_true' _).mp hwf) w)
  | rdId => exact decode_rd_offset .id
  | rdConfig => exact decode_rd_offset .config
  | rdCmd => exact decode_rd_offset .cmd
  | rdStatus => exact decode_rd_offset .status
  | rdNumChannels => exact decode_rd_offset .numChannels
  | rdSampleInterval => exact decode_rd_offset .sampleInterval
  | rdFreqOut => exact decode_rd_offset .freqOut
  | rdPeakBin => exact decode_rd_offset .peakBin
  | rdPeakMag2 => exact decode_rd_offset .peakMag2
  | rdElapsed => exact decode_rd_offset .elapsed
  | rdChSample c => exact decode_rd_offset (.chSample c)
  | rdRbCursor c => exact decode_rd_offset (.rbCursor c)
  | rdRbSnap c j => exact decode_rd_offset (.rbSnap c j)
  | rdReserved off => exact congrArg Except.ok (decodeRead_of_not_readable ((Bool.not_eq_true' _).mp hwf))

/-! ### From an access to its instruction and back -/

/-- A register's read row is well formed and stands for the read at the register's offset. -/
theorem readInstr_encodes (r : Register) : r.readInstr.wellFormed = true ∧ encode r.readInstr = .rd r.offset := by
  cases r <;> exact ⟨rfl, rfl⟩

theorem decodeCommand_encodes (w : Word) :
    (decodeCommand w).wellFormed = true ∧ encode (decodeCommand w) = .wr (Register.offset .cmd) w := by
  rcases decodeCommand_cases w with rfl | rfl | rfl | hwf
  · exact ⟨rfl, rfl⟩
  · exact ⟨rfl, rfl⟩
  · exact ⟨rfl, rfl⟩
  · rw [decodeCommand_of_reserved hwf]
    exact ⟨hwf, rfl⟩

/-- A register's write row is well formed and stands for the write at the register's offset. -/
theorem writeInstr_encodes (r : Register) (w : Word) :
    (r.writeInstr w).wellFormed = true ∧ encode (r.writeInstr w) = .wr r.offset w := by
  by_cases hro : readOnlyRegister r = true
  · rw [writeInstr_of_readOnly hro]
    refine ⟨?_, rfl⟩
    rw [Instr.wellFormed, isWritableOffset_offset, hro]
    rfl
  · cases r with
    | cmd => exact decodeCommand_encodes w
    | numChannels | sampleInterval | chSample => exact ⟨rfl, rfl⟩
    | _ => exact absurd rfl hro

theorem decodeRead_encodes (off : Offset) :
    (decodeRead off).wellFormed = true ∧ encode (decodeRead off) = .rd off := by
  cases hreg : registerAt off with
  | none =>
    have hreadable : isReadableOffset off = false := by
      rw [← Bool.not_eq_true, isReadableOffset_iff, not_not, hreg]
    rw [decodeRead_of_no_register hreg, Instr.wellFormed, hreadable]
    exact ⟨rfl, rfl⟩
  | some r =>
    obtain rfl := registerAt_eq_some_iff.mp hreg
    rw [decodeRead_offset]
    exact readInstr_encodes r

theorem decodeWrite_encodes (off : Offset) (w : Word) :
    (decodeWrite off w).wellFormed = true ∧ encode (decodeWrite off w) = .wr off w := by
  cases hreg : registerAt off with
  | none =>
    rw [decodeWrite_of_no_register hreg, Instr.wellFormed, not_isWritableOffset_of_no_register hreg]
    exact ⟨rfl, rfl⟩
  | some r =>
    obtain rfl := registerAt_eq_some_iff.mp hreg
    rw [decodeWrite_offset]
    exact writeInstr_encodes r w

/-- Settles O2, by the direction of the access: each decoder answers an instruction that stands for that access. -/
theorem encodeOfDecodeIsIdentity : Obligations.EncodeOfDecodeIsIdentity := by
  intro a i hdecode
  by_cases hsize : a.size = 4
  swap
  · cases (decode_of_size_ne hsize).symm.trans hdecode
  cases hdir : a.dir with
  | read =>
    cases (decode_read hsize hdir).symm.trans hdecode
    obtain ⟨hwf, hencode⟩ := decodeRead_encodes a.off
    rw [hencode, hsize]
    exact ⟨hwf, rfl, rfl, rfl, nofun⟩
  | write =>
    cases (decode_write hsize hdir).symm.trans hdecode
    obtain ⟨hwf, hencode⟩ := decodeWrite_encodes a.off a.data
    rw [hencode, hsize]
    exact ⟨hwf, rfl, rfl, rfl, fun _ => rfl⟩

/-! ### Written-out accesses and pseudo-instructions (R96) -/

/-- Settles O4: the first five and the write to RB_SNAP[0][0] are at a register's offset, 0x13E8 is not readable, and
the last access is no whole word. -/
theorem writtenOutAccessesDecode : Obligations.WrittenOutAccessesDecode :=
  ⟨decode_wr_offset .cmd 2#32, decode_wr_offset .cmd 0x12#32, decode_wr_offset (.chSample 1) _,
    decode_rd_offset (.rbSnap 0 239), decode_rd_offset (.rbCursor 19),
    congrArg Except.ok (decodeRead_of_not_readable (by decide)), decode_wr_offset (.rbSnap 0 0) 0#32,
    decode_of_size_ne (by decide)⟩

/-- Settles O5: each pseudo-instruction is one access at a register's offset. -/
theorem pseudoInstructionsDecode : Obligations.PseudoInstructionsDecode := by
  have one {a : Access} {i : Instr} (h : decode a = .ok i) : [a].map decode = [.ok i] := congrArg ([·]) h
  exact ⟨one (decode_wr_offset .cmd 0#32), one (decode_wr_offset .cmd 1#32), one (decode_wr_offset .cmd 2#32),
    one (decode_rd_offset .status), one (decode_rd_offset .freqOut), fun n => one (decode_wr_offset .numChannels n),
    fun h => one (decode_wr_offset .sampleInterval _), fun c h => one (decode_wr_offset (.chSample c) _),
    fun c j => one (decode_rd_offset (.rbSnap c j))⟩

end Sys2Proof
end

section
/-! PROOFS. What each register reads and stores (30_encoding.md R84, R87 to R93): the bit fields of the bus words, and
the reads, writes and refused accesses that carry them. -/

namespace Sys2Proof.Machine

/-! ### Fields of a bus word -/

theorem zext_field_low {n : Nat} (hn : n ≤ 32) (x : BitVec n) : (x.setWidth 32).extractLsb' 0 n = x := by
  rw [field_eq_iff, BitVec.toNat_setWidth_of_le hn, pow_zero, Nat.div_one, Nat.mod_eq_of_lt x.isLt]

theorem zext_field_high {n : Nat} (hn : n ≤ 32) (m : Nat) (x : BitVec n) : (x.setWidth 32).extractLsb' n m = 0#m := by
  rw [field_eq_iff, BitVec.toNat_setWidth_of_le hn, Nat.div_eq_of_lt x.isLt, BitVec.toNat_zero, Nat.zero_mod]

/-- The STATUS word as a number: ERRCODE at bit 8, READY at bit 0 (R87). -/
theorem statusWord_toNat (ready : Bool) (errcode : BitVec 4) :
    (statusWord ready errcode).toNat = 256 * errcode.toNat + ready.toNat := by
  revert ready errcode
  decide

theorem statusWord_fields (ready : Bool) (errcode : BitVec 4) :
    (statusWord ready errcode).getLsbD 0 = ready ∧ (statusWord ready errcode).extractLsb' 1 7 = 0#7 ∧
    (statusWord ready errcode).extractLsb' 8 4 = errcode ∧ (statusWord ready errcode).extractLsb' 12 20 = 0#20 := by
  have hready := Bool.toNat_lt ready
  have herrcode := errcode.isLt
  simp only [field_eq_iff, statusWord_toNat, BitVec.toNat_zero]
  refine ⟨?_, by omega, by omega, by omega⟩
  rw [BitVec.getLsbD, statusWord_toNat, Nat.testBit_zero]
  cases ready with
  | false => exact decide_eq_false (by rw [Bool.toNat_false]; omega)
  | true => exact decide_eq_true (by rw [Bool.toNat_true]; omega)

/-- RB_CURSOR's word carries the cursor in its low byte (R91). -/
theorem cursorWord_fields (i : Slot) :
    ((BitVec.ofNat 32 i.val).extractLsb' 0 8).toNat = i.val ∧ (BitVec.ofNat 32 i.val).extractLsb' 8 24 = 0#24 := by
  have hi := i.isLt
  have hword : (BitVec.ofNat 32 i.val).toNat = i.val := Nat.mod_eq_of_lt (by omega)
  rw [field_eq_iff, field_toNat, hword, BitVec.toNat_zero]
  constructor <;> omega

/-! ### The answer to a register's access -/

/-- The read row of a register answers its word and changes nothing else (20_memory.md R69). -/
theorem exec_readInstr (r : Register) (s : State) : exec r.readInstr s =
    .next { s with responses := s.responses ++ [.data (readRegister r s)] } := by
  rw [← decodeRead_offset, exec_decodeRead, registerAt_offset]
  rfl

theorem exec_wrNumChannels (w : Word) (s : State) :
    exec (.wrNumChannels w) s = .next ((s.setNumChannels w).respond .ok) := rfl

theorem exec_wrSampleInterval (w : Word) (s : State) :
    exec (.wrSampleInterval w) s = .next ((s.setSampleInterval (w.extractLsb' 0 16)).respond .ok) := by
  rw [← f16OfWord_eq]
  rfl

theorem exec_wrChSample (c : Channel) (w : Word) (s : State) :
    exec (.wrChSample c w) s = .next ((s.setChSample c (w.extractLsb' 0 16)).respond .ok) := by
  rw [← f16OfWord_eq]
  rfl

theorem exec_rdReserved (off : Offset) (s : State) :
    exec (.rdReserved off) s = .next { s with responses := s.responses ++ [.busError] } := rfl

theorem exec_wrRoOrReserved (off : Offset) (w : Word) (s : State) :
    exec (.wrRoOrReserved off w) s = .next { s with responses := s.responses ++ [.busError] } := rfl

/-! ### CMD and STATUS (R84, R87) -/

/-- A 1 in bits 31..4 makes a word none of the three commands. -/
theorem wrCmd_wellFormed_of_mbz {w : Word} (h : w.extractLsb' 4 28 ≠ 0#28) : (Instr.wrCmd w).wellFormed = true := by
  rw [wrCmd_wellFormed_iff]
  refine ⟨?_, ?_, ?_⟩
  all_goals
    rintro rfl
    exact h (by decide)

/-- Settles O12, from the read row of CMD and the decoding of a reserved command word at CMD's offset. -/
theorem cmdReadsZeroAndMbzIsReserved : Obligations.CmdReadsZeroAndMbzIsReserved := by
  refine ⟨exec_readInstr .cmd, fun w hmbz => ?_⟩
  have hwf := wrCmd_wellFormed_of_mbz hmbz
  exact ⟨decodeOfEncodeIsIdentity (.wrCmd w) hwf, hwf⟩

/-- Settles O13, from the fields of the STATUS word; STATUS is read-only. -/
theorem statusReadsReadyAndErrcode : Obligations.StatusReadsReadyAndErrcode := by
  intro s
  obtain ⟨hready, hlow, herrcode, hhigh⟩ := statusWord_fields s.ready s.errcode
  exact ⟨exec_readInstr .status s, hready, hlow, herrcode, hhigh, decode_wr_offset .status, rfl, rfl⟩

/-! ### The other registers (R88 to R92) -/

/-- Settles O14, from the write and the read row of NUM_CHANNELS. -/
theorem numChannelsStoresAndReadsWholeWord : Obligations.NumChannelsStoresAndReadsWholeWord :=
  fun s w => ⟨exec_wrNumChannels w s, exec_readInstr .numChannels s⟩

/-- Settles O15: a read zero-extends the 16 bits, and a write keeps the low half of its word. -/
theorem binary16RegistersHoldLowHalf : Obligations.Binary16RegistersHoldLowHalf := by
  intro s c w
  exact ⟨exec_readInstr .sampleInterval s, exec_readInstr .freqOut s, exec_readInstr .peakMag2 s,
    exec_readInstr .elapsed s, exec_readInstr (.chSample c) s,
    fun x => ⟨zext_field_low (by decide) x, zext_field_high (by decide) 16 x⟩,
    exec_wrSampleInterval w s, exec_wrChSample c w s, fun c' => State.setChSample_get s c c' _⟩

/-- Settles O16: the nine bits of PEAK_BIN are zero-extended. -/
theorem peakBinReadsNineBits : Obligations.PeakBinReadsNineBits :=
  fun s => ⟨exec_readInstr .peakBin s, zext_field_low (by decide) s.peakBin, zext_field_high (by decide) 23 s.peakBin⟩

/-- Settles O17: a cursor is a slot, so it fits the low byte. -/
theorem rbCursorReadsCursor : Obligations.RbCursorReadsCursor := by
  intro s c
  obtain ⟨hlow, hhigh⟩ := cursorWord_fields s.cur[c]
  exact ⟨_, exec_readInstr (.rbCursor c) s, hlow, Nat.le_of_lt_succ s.cur[c].isLt, hhigh⟩

/-- From 0x1000 on an offset with off[9:2] of 250 or more is unaligned or reserved (R92). -/
theorem registerAt_of_slot_out_of_range {off : Offset} (hhigh : 0x1000 ≤ off.toNat)
    (hslot : 250 ≤ (off.extractLsb' 2 8).toNat) : registerAt off = none := by
  have hoff := off.isLt
  rw [field_toNat] at hslot
  rw [registerAt_eq_none_iff, reservedOffset_iff]
  omega

/-- Settles O18, from the offset of RB_SNAP[c][j] and its fields; the slot read is the one `slotAfter` the cursor. -/
theorem rbSnapReadsSnapshotInOrder : Obligations.RbSnapReadsSnapshotInOrder :=
  ⟨offset_rbSnap_toNat, fun off c j => registerAt_eq_some_iff.trans (offset_rbSnap_eq_iff off c j),
    fun _ => registerAt_of_slot_out_of_range, fun s c j => exec_readInstr (.rbSnap c j) s⟩

/-! ### Reserved offsets (R93) -/

/-- Settles O19: no register is at a reserved offset, so both directions decode to a row that answers BUS_ERROR. -/
theorem reservedOffsetsGetBusError : Obligations.ReservedOffsetsGetBusError := by
  intro off w hreserved
  have hreg : registerAt off = none := registerAt_eq_none_iff.mpr (.inr hreserved)
  exact ⟨congrArg Except.ok (decodeRead_of_no_register hreg), congrArg Except.ok (decodeWrite_of_no_register hreg w),
    exec_rdReserved off, exec_wrRoOrReserved off w⟩

end Sys2Proof.Machine
end

section
/-! SUPPORT. The values of binary16 (40_fp16.md R100 to R102): a finite pattern is its sign and its magnitude, and a
rounding answers the nearest multiple of the units of its binade, or an infinity. -/

namespace Sys2Proof.Machine

/-! ### Classes (R100) -/

theorem isFinite16_iff (x : F16) : isFinite16 x = true ↔ expo16 x ≠ 31 := by
  simp [isFinite16]

theorem isInf16_of_isFinite16 {x : F16} (h : isFinite16 x = true) : isInf16 x = false := by
  simp [isInf16, (isFinite16_iff x).mp h]

theorem isNaN16_of_isFinite16 {x : F16} (h : isFinite16 x = true) : isNaN16 x = false := by
  simp [isNaN16, (isFinite16_iff x).mp h]

/-- A pattern that is no NaN is an infinity or has a value. -/
theorem isFinite16_of_isNaN16_isInf16 {x : F16} (hn : isNaN16 x = false) (hi : isInf16 x = false) :
    isFinite16 x = true := by
  rw [isFinite16_iff]
  intro he
  simp_all [isNaN16, isInf16]

@[simp] theorem isFinite16_signedInf16 (s : Bool) : isFinite16 (signedInf16 s) = false := by cases s <;> decide
@[simp] theorem isFinite16_signedZero16 (s : Bool) : isFinite16 (signedZero16 s) = true := by cases s <;> decide
@[simp] theorem val24_signedZero16 (s : Bool) : val24 (signedZero16 s) = 0 := by cases s <;> decide
theorem val24_zero16 : val24 zero16 = 0 := by decide
theorem sign16_zero16 : sign16 zero16 = false := by decide

theorem isFinite16_pack16 (s : Bool) {e : BitVec 5} (f : BitVec 10) (he : e.toNat < 31) :
    isFinite16 (pack16 s e f) = true := by
  rw [isFinite16_iff, expo16_pack16]; omega

/-- An infinity is the packed one of its sign. -/
theorem signedInf16_of_isInf16 {x : F16} (h : isInf16 x = true) : signedInf16 (sign16 x) = x := by
  have hfields : expo16 x = 31 ∧ frac16 x = 0 := by simpa [isInf16] using h
  have he : x.extractLsb' 10 5 = 31#5 := BitVec.eq_of_toNat_eq hfields.1
  have hf : x.extractLsb' 0 10 = 0#10 := BitVec.eq_of_toNat_eq hfields.2
  rw [signedInf16, ← he, ← hf, pack16_fields]

/-! ### Magnitudes (R101) -/

theorem mag24_pack16 (s : Bool) (e : BitVec 5) (f : BitVec 10) :
    mag24 (pack16 s e f) = if e.toNat = 0 then f.toNat else (1024 + f.toNat) * 2 ^ (e.toNat - 1) := by
  rw [mag24, expo16_pack16, frac16_pack16]

theorem mag24_of_expo16_pos {x : F16} (h : 0 < expo16 x) : mag24 x = (1024 + frac16 x) * 2 ^ (expo16 x - 1) :=
  if_neg h.ne'

theorem mag24_lt (x : F16) : mag24 x < 2 ^ (expo16 x + 10) := by
  have hf := frac16_lt x
  rcases Nat.eq_zero_or_pos (expo16 x) with he | he
  · rw [mag24, if_pos he, he]; exact hf
  · calc mag24 x = (1024 + frac16 x) * 2 ^ (expo16 x - 1) := mag24_of_expo16_pos he
      _ < 2 ^ 11 * 2 ^ (expo16 x - 1) := Nat.mul_lt_mul_of_pos_right (by omega) (by positivity)
      _ = 2 ^ (expo16 x + 10) := by rw [← Nat.pow_add]; congr 1; omega

theorem le_mag24 {x : F16} (h : 0 < expo16 x) : 2 ^ (expo16 x + 9) ≤ mag24 x :=
  calc 2 ^ (expo16 x + 9) = 2 ^ 10 * 2 ^ (expo16 x - 1) := by rw [← Nat.pow_add]; congr 1; omega
    _ ≤ (1024 + frac16 x) * 2 ^ (expo16 x - 1) := Nat.mul_le_mul_right _ (by omega)
    _ = mag24 x := (mag24_of_expo16_pos h).symm

/-- Every finite magnitude is at most 2047 * 2^29 units, 65504. -/
theorem mag24_le {x : F16} (h : isFinite16 x = true) : mag24 x ≤ 2047 * 2 ^ 29 := by
  have hf := frac16_lt x
  have he := expo16_lt x
  have hne := (isFinite16_iff x).mp h
  rcases Nat.eq_zero_or_pos (expo16 x) with h0 | hpos
  · rw [mag24, if_pos h0]; omega
  · rw [mag24_of_expo16_pos hpos]
    exact Nat.mul_le_mul (by omega) (Nat.pow_le_pow_right (by decide) (by omega))

theorem natAbs_val24 (x : F16) : (val24 x).natAbs = mag24 x := by
  unfold val24; split <;> simp

/-- The greater exponent has the greater magnitude, so equal magnitudes have equal exponents. -/
theorem mag24_lt_of_expo16_lt {x y : F16} (h : expo16 x < expo16 y) : mag24 x < mag24 y :=
  calc mag24 x < 2 ^ (expo16 x + 10) := mag24_lt x
    _ ≤ 2 ^ (expo16 y + 9) := Nat.pow_le_pow_right (by decide) (by omega)
    _ ≤ mag24 y := le_mag24 (by omega)

/-- A pattern is determined by its sign and its magnitude. -/
theorem eq_of_sign16_mag24 {x y : F16} (hs : sign16 x = sign16 y) (hm : mag24 x = mag24 y) : x = y := by
  have hexpo : expo16 x = expo16 y := by
    rcases Nat.lt_trichotomy (expo16 x) (expo16 y) with h | h | h
    · exact absurd (mag24_lt_of_expo16_lt h) (by omega)
    · exact h
    · exact absurd (mag24_lt_of_expo16_lt h) (by omega)
  have hfrac : frac16 x = frac16 y := by
    rw [mag24, mag24, hexpo] at hm
    split at hm
    · exact hm
    · exact Nat.add_left_cancel (Nat.eq_of_mul_eq_mul_right (by positivity) hm)
  have he : x.extractLsb' 10 5 = y.extractLsb' 10 5 := BitVec.eq_of_toNat_eq hexpo
  have hf : x.extractLsb' 0 10 = y.extractLsb' 0 10 := BitVec.eq_of_toNat_eq hfrac
  rw [← pack16_fields x, ← pack16_fields y, hs, he, hf]

theorem eq_of_sign16_val24 {x y : F16} (hs : sign16 x = sign16 y) (hv : val24 x = val24 y) : x = y :=
  eq_of_sign16_mag24 hs (by rw [← natAbs_val24 x, ← natAbs_val24 y, hv])

/-- A value other than 0 fixes the sign bit. -/
theorem sign16_of_val24_ne_zero {x : F16} (h : val24 x ≠ 0) : sign16 x = decide (val24 x < 0) := by
  unfold val24 at h ⊢
  cases hs : sign16 x
  · simp
  · simp only [hs, if_true] at h ⊢
    simp; omega

/-- A finite value is a multiple of the units of the binade k, or it lies below that binade. -/
theorem dvd_val24_or_lt (y : F16) (k : Nat) : (2 ^ k : Int) ∣ val24 y ∨ |val24 y| < 2 ^ (k + 10) := by
  rcases Nat.lt_or_ge k (expo16 y) with hk | hk
  · left
    have hdvd : 2 ^ k ∣ mag24 y := by
      rw [mag24_of_expo16_pos (by omega)]
      exact Dvd.dvd.mul_left (Nat.pow_dvd_pow 2 (by omega)) _
    have habs : 2 ^ k ∣ (val24 y).natAbs := by rwa [natAbs_val24]
    exact_mod_cast Int.natCast_dvd.mpr habs
  · right
    have hlt : mag24 y < 2 ^ (k + 10) := lt_of_lt_of_le (mag24_lt y) (Nat.pow_le_pow_right (by decide) (by omega))
    rw [Int.abs_eq_natAbs, natAbs_val24]
    exact_mod_cast hlt

/-! ### The end of a rounding (R102) -/

theorem getLsbD_zero_pack16 (s : Bool) (e : BitVec 5) (f : BitVec 10) :
    (pack16 s e f).getLsbD 0 = decide (f.toNat % 2 = 1) := by
  rw [BitVec.getLsbD, pack16_toNat, Nat.testBit_zero]
  congr 2; omega

/-- What the significand n of the binade k becomes: an infinity from 2^40 units on, and otherwise the finite pattern of
n * 2^k units, whose last bit is that of n. -/
theorem finish16_value (s : Bool) {k n : Nat} (hle : n ≤ 2048) (hge : k = 0 ∨ 1024 ≤ n) :
    (2 ^ 40 ≤ n * 2 ^ k ∧ finish16 s k n = signedInf16 s) ∨
    (n * 2 ^ k < 2 ^ 40 ∧ isFinite16 (finish16 s k n) = true ∧ mag24 (finish16 s k n) = n * 2 ^ k ∧
      (finish16 s k n).getLsbD 0 = decide (n % 2 = 1)) := by
  have hover : ∀ {m j : Nat}, m ≤ n → j ≤ k → m * 2 ^ j ≤ n * 2 ^ k := fun hm hj =>
    Nat.mul_le_mul hm (Nat.pow_le_pow_right (by decide) hj)
  have hunder : ∀ {m j : Nat}, n ≤ m → k ≤ j → n * 2 ^ k ≤ m * 2 ^ j := fun hm hj =>
    Nat.mul_le_mul hm (Nat.pow_le_pow_right (by decide) hj)
  unfold finish16
  split_ifs with htop hinf hinf hsub
  · exact .inl ⟨hover (m := 2048) (j := 29) (by omega) (by omega), rfl⟩
  · have he : (BitVec.ofNat 5 (k + 2)).toNat = k + 2 := by rw [BitVec.toNat_ofNat]; omega
    refine .inr ⟨lt_of_le_of_lt (hunder (m := 2048) (j := 28) hle (by omega)) (by decide),
      isFinite16_pack16 s _ (by omega), ?_, ?_⟩
    · rw [mag24_pack16, he, if_neg (by omega), htop, show k + 2 - 1 = k + 1 from rfl, Nat.pow_succ]
      simp; ring
    · rw [getLsbD_zero_pack16, htop]; rfl
  · exact .inl ⟨hover (m := 1024) (j := 30) (by omega) (by omega), rfl⟩
  · obtain rfl : k = 0 := by omega
    have hf : (BitVec.ofNat 10 n).toNat = n := by rw [BitVec.toNat_ofNat]; omega
    refine .inr ⟨by omega, isFinite16_pack16 s _ (by decide), ?_, ?_⟩
    · rw [mag24_pack16, hf]; simp
    · rw [getLsbD_zero_pack16, hf]
  · have he : (BitVec.ofNat 5 (k + 1)).toNat = k + 1 := by rw [BitVec.toNat_ofNat]; omega
    have hf : (BitVec.ofNat 10 (n - 1024)).toNat = n - 1024 := by rw [BitVec.toNat_ofNat]; omega
    refine .inr ⟨lt_of_le_of_lt (hunder (m := 2047) (j := 29) (by omega) (by omega)) (by decide),
      isFinite16_pack16 s _ (by omega), ?_, ?_⟩
    · rw [mag24_pack16, he, hf, if_neg (by omega), Nat.add_sub_cancel, Nat.add_sub_cancel' (by omega)]
    · have hparity : (n - 1024) % 2 = n % 2 := by omega
      rw [getLsbD_zero_pack16, hf, hparity]

/-! ### The nearest integer (R102) -/

/-- nearestEven is at most half a divisor off, and at exactly half it is even. -/
theorem nearestEven_close (a : Nat) {d : Nat} (hd : 0 < d) :
    2 * |(nearestEven a d : Int) * d - a| ≤ d ∧
      (2 * |(nearestEven a d : Int) * d - a| = d → nearestEven a d % 2 = 0) := by
  have hdiv : ((a / d : Nat) : Int) * d + (a % d : Nat) = a := by exact_mod_cast Nat.div_add_mod' a d
  have hmod := Nat.mod_lt a hd
  unfold nearestEven
  split_ifs with hup
  · have hdist : ((a / d + 1 : Nat) : Int) * d - a = d - (a % d : Nat) := by
      rw [Nat.cast_succ]; linarith
    rw [hdist, abs_of_nonneg (by omega)]
    omega
  · have hdist : ((a / d : Nat) : Int) * d - a = -(a % d : Nat) := by linarith
    rw [hdist, abs_neg, abs_of_nonneg (by omega)]
    omega

/-- No multiple of the divisor is nearer than nearestEven's, and another one at the same distance makes it even. -/
theorem nearestEven_nearest (a : Nat) {d : Nat} (hd : 0 < d) (m : Int) :
    |(nearestEven a d : Int) * d - a| ≤ |m * d - a| ∧
      (|(nearestEven a d : Int) * d - a| = |m * d - a| → m ≠ nearestEven a d → nearestEven a d % 2 = 0) := by
  obtain ⟨hclose, heven⟩ := nearestEven_close a hd
  by_cases hm : m = nearestEven a d
  · rw [hm]; exact ⟨le_rfl, fun _ h => absurd rfl h⟩
  · have hapart : (d : Int) ≤ |m * d - a| + |(nearestEven a d : Int) * d - a| :=
      calc (d : Int) = 1 * d := (one_mul _).symm
        _ ≤ |m - nearestEven a d| * d := by
          refine mul_le_mul_of_nonneg_right (Int.one_le_abs (sub_ne_zero.mpr hm)) (by omega)
        _ = |(m * d - a) - (nearestEven a d * d - a)| := by
          rw [← abs_of_nonneg (Int.natCast_nonneg d), ← abs_mul, abs_of_nonneg (Int.natCast_nonneg d)]; ring_nf
        _ ≤ _ := abs_sub _ _
    exact ⟨by omega, fun heq _ => heven (by omega)⟩

/-- nearestEven reaches the even 2048 exactly from the tie below it on. -/
theorem le_2048_nearestEven_iff (a : Nat) {d : Nat} (hd : 0 < d) : 2048 ≤ nearestEven a d ↔ 4095 * d ≤ 2 * a := by
  have hdiv : d * (a / d) + a % d = a := Nat.div_add_mod a d
  have hmod := Nat.mod_lt a hd
  rw [nearestEven]
  generalize a / d = q at *
  generalize a % d = r at *
  rcases Nat.lt_trichotomy q 2047 with hq | rfl | hq
  · have hle : d * q ≤ d * 2046 := Nat.mul_le_mul_left d (by omega)
    exact iff_of_false (by split <;> omega) (by omega)
  · have htie : (d < 2 * r ∨ 2 * r = d ∧ 2047 % 2 = 1) ↔ d ≤ 2 * r := by
      rw [le_iff_lt_or_eq, eq_comm (a := d)]; simp
    rw [if_congr htie rfl rfl]
    split <;> omega
  · have hle : d * 2048 ≤ d * q := Nat.mul_le_mul_left d (by omega)
    exact iff_of_true (by split <;> omega) (by omega)

/-! ### The binade and the significand (R102) -/

/-- A value above the lowest binade reaches its binade's least value, and every value lies below its end. -/
theorem binade24_bounds (a : Nat) {d : Nat} (hd : 0 < d) :
    (binade24 a d = 0 ∨ 2 ^ (binade24 a d + 10) * d ≤ a) ∧ a < 2 ^ (binade24 a d + 11) * d := by
  constructor
  · refine or_iff_not_imp_left.mpr fun hk => (Nat.le_div_iff_mul_le hd).mp ?_
    have hlog : binade24 a d + 10 = Nat.log2 (a / d) := by unfold binade24 at hk ⊢; omega
    rw [hlog]
    exact Nat.log2_self_le fun h0 => by rw [h0] at hlog; simp at hlog
  · refine (Nat.div_lt_iff_lt_mul hd).mp ?_
    calc a / d < 2 ^ (Nat.log2 (a / d) + 1) := Nat.lt_log2_self
      _ ≤ 2 ^ (binade24 a d + 11) := Nat.pow_le_pow_right (by decide) (by unfold binade24; omega)

/-- The significand of a / d in its binade (R102). -/
def significand24 (a d : Nat) : Nat := nearestEven a (d * 2 ^ binade24 a d)

theorem round24_eq (s : Bool) (a d : Nat) : round24 s a d = finish16 s (binade24 a d) (significand24 a d) := rfl

theorem le_significand24 (a d : Nat) : binade24 a d = 0 ∨ 1024 ≤ significand24 a d := by
  refine or_iff_not_imp_left.mpr fun hk => le_nearestEven_binade ?_
  by_contra hsmall
  refine hk ?_
  have hlog : Nat.log2 (a / d) < 11 := by
    by_cases h0 : a / d = 0
    · rw [h0]; decide
    · exact (Nat.log2_lt h0).mpr (by omega)
  unfold binade24; omega

/-- The rounded value is n * 2^k units, for the significand n and the binade k, unless it is an infinity. -/
theorem round24_value (s : Bool) (a d : Nat) :
    (2 ^ 40 ≤ significand24 a d * 2 ^ binade24 a d ∧ round24 s a d = signedInf16 s) ∨
    (significand24 a d * 2 ^ binade24 a d < 2 ^ 40 ∧ isFinite16 (round24 s a d) = true ∧
      mag24 (round24 s a d) = significand24 a d * 2 ^ binade24 a d ∧
      (round24 s a d).getLsbD 0 = decide (significand24 a d % 2 = 1)) :=
  round24_eq s a d ▸ finish16_value s (nearestEven_binade_le a d) (le_significand24 a d)

/-- A rounding answers an infinity exactly when the rounded significand reaches 2^40 units. -/
theorem isInf16_round24 (s : Bool) (a d : Nat) :
    isInf16 (round24 s a d) = true ↔ 2 ^ 40 ≤ significand24 a d * 2 ^ binade24 a d := by
  rcases round24_value s a d with ⟨hbig, heq⟩ | ⟨hsmall, hfin, _⟩
  · exact iff_of_true (by rw [heq, isInf16_signedInf16]) hbig
  · exact iff_of_false (by simp [isInf16_of_isFinite16 hfin]) (Nat.not_le.mpr hsmall)

/-- The rounded significand reaches 2^40 units exactly from 65520 on, halfway between 65504 and 65536. -/
theorem overflow_iff (a : Nat) {d : Nat} (hd : 0 < d) :
    2 ^ 40 ≤ significand24 a d * 2 ^ binade24 a d ↔ 4095 * 2 ^ 28 * d ≤ a := by
  obtain ⟨hlow, hhigh⟩ := binade24_bounds a hd
  have hn : significand24 a d ≤ 2048 := nearestEven_binade_le a d
  have hn' := le_significand24 a d
  rcases Nat.lt_trichotomy (binade24 a d) 29 with hk | hk | hk
  · have hpow : 2 ^ binade24 a d ≤ 2 ^ 28 := Nat.pow_le_pow_right (by decide) (by omega)
    have hsig : significand24 a d * 2 ^ binade24 a d ≤ 2048 * 2 ^ 28 := Nat.mul_le_mul hn hpow
    have hpow' : 2 ^ (binade24 a d + 11) * d ≤ 2 ^ 39 * d :=
      Nat.mul_le_mul_right d (Nat.pow_le_pow_right (by decide) (by omega))
    omega
  · have hround := le_2048_nearestEven_iff a (d := d * 2 ^ 29) (by omega)
    rw [hk, significand24, hk]
    omega
  · have hpow : 2 ^ 30 ≤ 2 ^ binade24 a d := Nat.pow_le_pow_right (by decide) (by omega)
    have hsig : 1024 * 2 ^ 30 ≤ significand24 a d * 2 ^ binade24 a d := Nat.mul_le_mul (by omega) hpow
    have hpow' : 2 ^ 40 * d ≤ 2 ^ (binade24 a d + 10) * d :=
      Nat.mul_le_mul_right d (Nat.pow_le_pow_right (by decide) (by omega))
    omega

/-- No multiple of the binade's units, and nothing below the binade, is nearer than a finite rounding; at the same
distance from another such value the rounding is even. -/
theorem round24_nearest (s : Bool) (a : Nat) {d : Nat} (hd : 0 < d) (hfin : isFinite16 (round24 s a d) = true) {z : Int}
    (hz : (2 ^ binade24 a d : Int) ∣ z ∨ |z| < 2 ^ (binade24 a d + 10)) :
    |(mag24 (round24 s a d) : Int) * d - a| ≤ |z * d - a| ∧
      (|(mag24 (round24 s a d) : Int) * d - a| = |z * d - a| → z ≠ mag24 (round24 s a d) →
        (round24 s a d).getLsbD 0 = false) := by
  have hunit : 0 < d * 2 ^ binade24 a d := by positivity
  rcases round24_value s a d with ⟨_, heq⟩ | ⟨_, _, hmag, hlsb⟩
  · rw [heq, isFinite16_signedInf16] at hfin
    exact absurd hfin Bool.false_ne_true
  have hscale : ∀ m : Int, m * 2 ^ binade24 a d * d - a = m * (d * 2 ^ binade24 a d : Nat) - a := by
    intro m; push_cast; ring
  have hval : (mag24 (round24 s a d) : Int) = significand24 a d * 2 ^ binade24 a d := by rw [hmag]; push_cast; rfl
  rw [hval, hscale]
  have hgrid : (2 ^ binade24 a d : Int) ∣ z ∨ (z < 2 ^ (binade24 a d + 10) ∧ 2 ^ (binade24 a d + 10) * d ≤ a) := by
    rcases hz with hdvd | hlt
    · exact .inl hdvd
    · rcases (binade24_bounds a hd).1 with h0 | hle
      · exact .inl (by rw [h0, pow_zero]; exact one_dvd z)
      · exact .inr ⟨lt_of_abs_lt hlt, hle⟩
  rcases hgrid with ⟨m, rfl⟩ | ⟨hbelow, hle⟩
  · obtain ⟨hle, heven⟩ := nearestEven_nearest a hunit m
    rw [mul_comm _ m, hscale]
    refine ⟨hle, fun heq hne => ?_⟩
    rw [hlsb]
    have := heven heq fun hm => hne (by rw [hm]; rfl)
    simp [significand24, this]
  · have hleast := (nearestEven_nearest a hunit (2 ^ 10)).1
    have hcast : ((2 : Int) ^ (binade24 a d + 10)) * d ≤ a := by exact_mod_cast hle
    have hbase : |(2 ^ 10 : Int) * (d * 2 ^ binade24 a d : Nat) - a| = a - 2 ^ (binade24 a d + 10) * d := by
      rw [← hscale, ← pow_add, Nat.add_comm 10, abs_sub_comm, abs_of_nonneg (by omega)]
    have hfar : z * d < 2 ^ (binade24 a d + 10) * d := mul_lt_mul_of_pos_right hbelow (by omega)
    have hdist : (a : Int) - z * d ≤ |z * d - a| := by rw [abs_sub_comm]; exact le_abs_self _
    rw [hbase] at hleast
    have hstrict : |(significand24 a d : Int) * (d * 2 ^ binade24 a d : Nat) - a| < |z * d - a| :=
      lt_of_le_of_lt hleast (by omega)
    exact ⟨hstrict.le, fun heq => absurd heq hstrict.ne⟩

end Sys2Proof.Machine
end

section
/-! PROOFS. Binary16 (40_fp16.md): the rounding is to nearest with ties to even (R102) and odd-symmetric (R103), the
comparison is the order of the values (R109), and the identities and the one NaN of the primitives (R111, R116). -/

namespace Sys2Proof.Machine

/-! ### The rounding of a fraction (R102) -/

@[simp] theorem isNaN16_rnd16 (num : Int) (den : Nat) (zs : Bool) : isNaN16 (rnd16 num den zs) = false :=
  (rnd16_spec num den zs).1

@[simp] theorem rnd16_zero (den : Nat) (zs : Bool) : rnd16 0 den zs = signedZero16 zs := if_pos rfl

theorem rnd16_of_ne_zero {num : Int} (h : num ≠ 0) (den : Nat) (zs : Bool) :
    rnd16 num den zs = round24 (decide (num < 0)) (num.natAbs * 2 ^ 24) den := if_neg h

theorem isFinite16_or_isInf16_rnd16 (num : Int) (den : Nat) (zs : Bool) :
    isFinite16 (rnd16 num den zs) = true ∨ isInf16 (rnd16 num den zs) = true := by
  cases hi : isInf16 (rnd16 num den zs) with
  | true => exact .inr rfl
  | false => exact .inl (isFinite16_of_isNaN16_isInf16 (isNaN16_rnd16 num den zs) hi)

/-- A rounding overflows exactly from 65520 on. -/
theorem isInf16_rnd16_iff (num : Int) {den : Nat} (zs : Bool) (hd : 0 < den) :
    isInf16 (rnd16 num den zs) = true ↔ 65520 * den ≤ num.natAbs := by
  by_cases h0 : num = 0
  · rw [h0, rnd16_zero]
    exact iff_of_false (by simp [isInf16_of_isFinite16]) (by simp; omega)
  · rw [rnd16_of_ne_zero h0, isInf16_round24, overflow_iff _ hd]
    omega

/-- Turned to the sign of num, a value of that sign is its magnitude. -/
theorem sign_mul_val24 {num : Int} (h0 : num ≠ 0) {x : F16} (hs : sign16 x = decide (num < 0)) :
    num.sign * val24 x = mag24 x := by
  rcases Int.lt_or_gt_of_ne h0 with hneg | hpos
  · rw [val24, hs, decide_eq_true hneg, Int.sign_eq_neg_one_of_neg hneg]; simp
  · rw [val24, hs, decide_eq_false (by omega), Int.sign_eq_one_of_pos hpos]; simp

/-- A distance to num is the same after turning both values to the sign of num. -/
theorem abs_sub_eq_abs_sign_mul_sub {num : Int} (h0 : num ≠ 0) (z den : Int) :
    |z * den - num * 2 ^ 24| = |num.sign * z * den - (num.natAbs * 2 ^ 24 : Nat)| := by
  rcases Int.lt_or_gt_of_ne h0 with hneg | hpos
  · have hnum : num = -num.natAbs := by omega
    rw [Int.sign_eq_neg_one_of_neg hneg, ← abs_neg]
    congr 1; push_cast; rw [abs_of_neg hneg]; ring
  · rw [Int.sign_eq_one_of_pos hpos]
    congr 1; push_cast; rw [abs_of_pos hpos]; ring

/-- No finite pattern is nearer to the fraction than its finite rounding, and ties go to the even pattern. -/
theorem rnd16_nearest {num : Int} {den : Nat} {zs : Bool} (hd : 0 < den) (hfin : isFinite16 (rnd16 num den zs) = true)
    (y : F16) :
    |val24 (rnd16 num den zs) * den - num * 2 ^ 24| ≤ |val24 y * den - num * 2 ^ 24| ∧
      (|val24 (rnd16 num den zs) * den - num * 2 ^ 24| = |val24 y * den - num * 2 ^ 24| →
        val24 y ≠ val24 (rnd16 num den zs) → (rnd16 num den zs).getLsbD 0 = false) := by
  by_cases h0 : num = 0
  · have hdist : |val24 (rnd16 num den zs) * den - num * 2 ^ 24| = 0 := by simp [h0]
    rw [hdist]
    refine ⟨abs_nonneg _, fun heq hne => absurd ?_ hne⟩
    have hy : val24 y = 0 := by simpa [h0, hd.ne'] using heq.symm
    rw [hy, h0, rnd16_zero, val24_signedZero16]
  · have hmag := sign_mul_val24 h0 ((rnd16_spec num den zs).2.trans (if_neg h0))
    have hsign : num.sign ≠ 0 := mt Int.sign_eq_zero_iff_zero.mp h0
    have hgrid : (2 ^ binade24 (num.natAbs * 2 ^ 24) den : Int) ∣ num.sign * val24 y ∨
        |num.sign * val24 y| < 2 ^ (binade24 (num.natAbs * 2 ^ 24) den + 10) := by
      rw [abs_mul, Int.abs_sign_of_ne_zero h0, one_mul]
      exact (dvd_val24_or_lt y _).imp_left fun h => h.mul_left _
    rw [abs_sub_eq_abs_sign_mul_sub h0, abs_sub_eq_abs_sign_mul_sub h0, hmag]
    rw [rnd16_of_ne_zero h0] at hfin hmag ⊢
    obtain ⟨hle, htie⟩ := round24_nearest _ _ hd hfin hgrid
    exact ⟨hle, fun heq hne => htie heq fun h => hne (mul_left_cancel₀ hsign (h.trans hmag.symm))⟩

/-- Settles O42, from the class, the sign, the overflow threshold and the nearest value of a rounding. -/
theorem roundingIsNearestTiesToEven : Obligations.RoundingIsNearestTiesToEven :=
  fun num den zs hd => ⟨isFinite16_or_isInf16_rnd16 num den zs, (rnd16_spec num den zs).2,
    isInf16_rnd16_iff num zs hd, fun hfin y _ => rnd16_nearest hd hfin y⟩

/-! ### Odd symmetry (R103) -/

/-- neg16 flips the sign field and keeps the others. -/
theorem neg16_pack16 (s : Bool) (e : BitVec 5) (f : BitVec 10) : neg16 (pack16 s e f) = pack16 (!s) e f := by
  have hmask : 0x8000#16 = pack16 true 0#5 0#10 := by decide
  have hsign : BitVec.ofBool s ^^^ BitVec.ofBool true = BitVec.ofBool (!s) := by cases s <;> rfl
  rw [neg16, hmask]
  unfold pack16
  rw [BitVec.xor_append, BitVec.xor_append, hsign, BitVec.xor_zero, BitVec.xor_zero]

theorem neg16_signedInf16 (s : Bool) : neg16 (signedInf16 s) = signedInf16 (!s) := neg16_pack16 _ _ _

theorem neg16_finish16 (s : Bool) (k n : Nat) : neg16 (finish16 s k n) = finish16 (!s) k n := by
  unfold finish16
  split_ifs <;> simp only [neg16_pack16, neg16_signedInf16]

/-- Settles O43: the magnitude decides all fields but the sign, and the sign of -v is the other one. -/
theorem roundingIsOddSymmetric : Obligations.RoundingIsOddSymmetric := by
  intro num den zs
  by_cases h0 : num = 0
  · rw [h0, Int.neg_zero, rnd16_zero, rnd16_zero]
    exact (neg16_pack16 _ _ _).symm
  · have hsign : decide (-num < 0) = !decide (num < 0) := by
      rw [← decide_not]; exact decide_eq_decide.mpr (by omega)
    rw [rnd16_of_ne_zero h0, rnd16_of_ne_zero (neg_ne_zero.mpr h0), hsign, Int.natAbs_neg]
    exact (neg16_finish16 _ _ _).symm

/-! ### The order of the values (R109) -/

/-- Every finite value lies strictly between the ends of the order. -/
theorem val24_bounds {x : F16} (h : isFinite16 x = true) : -(2 ^ 41) < val24 x ∧ val24 x < 2 ^ 41 := by
  have hmag := mag24_le h
  rw [← natAbs_val24] at hmag
  omega

/-- Without NaNs, lt16 compares the places in the order. -/
theorem lt16_eq_order24 {a b : F16} (ha : isNaN16 a = false) (hb : isNaN16 b = false) :
    lt16 a b = decide (order24 a < order24 b) := by
  have hbound : ∀ {x : F16}, isNaN16 x = false → isInf16 x = false → -(2 ^ 41) < val24 x ∧ val24 x < 2 ^ 41 :=
    fun hn hi => val24_bounds (isFinite16_of_isNaN16_isInf16 hn hi)
  cases hai : isInf16 a <;> cases hbi : isInf16 b
  · rw [lt16_finite ha hb hai hbi, order24, order24, hai, hbi]; rfl
  · have := hbound ha hai
    cases hbs : sign16 b <;> simp [lt16, order24, ha, hb, hai, hbi, hbs] <;> omega
  · have := hbound hb hbi
    cases has : sign16 a <;> simp [lt16, order24, ha, hb, hai, hbi, has] <;> omega
  · cases has : sign16 a <;> cases hbs : sign16 b <;> simp [lt16, order24, ha, hb, hai, hbi, has, hbs]

/-- Settles O44: a NaN makes lt16 false, and otherwise it compares the places in the order. -/
theorem comparisonIsTheOrderOfValues : Obligations.ComparisonIsTheOrderOfValues := by
  intro a b
  refine ⟨?_, rfl, val24_bounds⟩
  cases ha : isNaN16 a with
  | true => simp [lt16, ha]
  | false =>
    cases hb : isNaN16 b with
    | true => simp [lt16, hb]
    | false => simp [lt16_eq_order24 ha hb]

/-! ### The NaN of the primitives (R111) -/

/-- If the pattern is a NaN, it is QNAN16. -/
def nanIsQnan16 (x : F16) : Prop := isNaN16 x = true → x = qnan16

theorem nanIsQnan16_qnan : nanIsQnan16 qnan16 := fun _ => rfl

theorem nanIsQnan16_of_isNaN16 {x : F16} (h : isNaN16 x = false) : nanIsQnan16 x :=
  fun hn => absurd (h.symm.trans hn) Bool.false_ne_true

theorem nanIsQnan16_rnd16 (num : Int) (den : Nat) (zs : Bool) : nanIsQnan16 (rnd16 num den zs) :=
  nanIsQnan16_of_isNaN16 (isNaN16_rnd16 num den zs)

theorem nanIsQnan16_signedInf16 (s : Bool) : nanIsQnan16 (signedInf16 s) :=
  nanIsQnan16_of_isNaN16 (isNaN16_signedInf16 s)

theorem nanIsQnan16_signedZero16 (s : Bool) : nanIsQnan16 (signedZero16 s) :=
  nanIsQnan16_of_isNaN16 (isNaN16_signedZero16 s)

theorem nanIsQnan16_add16 (a b : F16) : nanIsQnan16 (add16 a b) := by
  unfold add16
  split_ifs with hnan hopp hai hbi hzero
  · exact nanIsQnan16_qnan
  · exact nanIsQnan16_qnan
  · exact nanIsQnan16_of_isNaN16 (by simp_all)
  · exact nanIsQnan16_of_isNaN16 (by simp_all)
  · exact nanIsQnan16_signedZero16 _
  · exact nanIsQnan16_rnd16 _ _ _

theorem nanIsQnan16_mul16 (a b : F16) : nanIsQnan16 (mul16 a b) := by
  unfold mul16
  split_ifs with hnan hinvalid hinf
  · exact nanIsQnan16_qnan
  · exact nanIsQnan16_qnan
  · exact nanIsQnan16_signedInf16 _
  · exact nanIsQnan16_rnd16 _ _ _

theorem nanIsQnan16_div16 (a b : F16) : nanIsQnan16 (div16 a b) := by
  unfold div16
  generalize (if sign16 b then -val24 a else val24 a) = num
  split_ifs with hnan hinf hzero hai hbi hbz
  · exact nanIsQnan16_qnan
  · exact nanIsQnan16_qnan
  · exact nanIsQnan16_qnan
  · exact nanIsQnan16_signedInf16 _
  · exact nanIsQnan16_signedZero16 _
  · exact nanIsQnan16_signedInf16 _
  · exact nanIsQnan16_rnd16 _ _ _

/-- Settles O46: a rounding and a packed zero or infinity are no NaN, so only the branches of QNAN16 answer one. -/
theorem primitivesReturnOneNaN : Obligations.PrimitivesReturnOneNaN :=
  fun a b => ⟨nanIsQnan16_add16 a b, nanIsQnan16_add16 a (neg16 b), nanIsQnan16_mul16 a b, nanIsQnan16_div16 a b⟩

/-! ### Exact results (R116) -/

/-- A fraction that is the value of a finite pattern is rounded to that value. -/
theorem rnd16_exact {num : Int} {den : Nat} (zs : Bool) (hd : 0 < den) {x : F16} (hx : isFinite16 x = true)
    (hexact : num * 2 ^ 24 = val24 x * den) :
    isFinite16 (rnd16 num den zs) = true ∧ val24 (rnd16 num den zs) = val24 x := by
  have hsmall : num.natAbs < 65520 * den := by
    have hmag : num.natAbs * 2 ^ 24 = mag24 x * den := by
      rw [← natAbs_val24, ← Int.natAbs_natCast den, ← Int.natAbs_mul, ← hexact, Int.natAbs_mul]; rfl
    have hle : mag24 x * den ≤ 2047 * 2 ^ 29 * den := Nat.mul_le_mul_right den (mag24_le hx)
    omega
  have hfin : isFinite16 (rnd16 num den zs) = true :=
    (isFinite16_or_isInf16_rnd16 num den zs).resolve_right
      (mt (isInf16_rnd16_iff num zs hd).mp (Nat.not_le.mpr hsmall))
  have hnear := (rnd16_nearest hd hfin x).1
  rw [hexact, sub_self, abs_zero, abs_nonpos_iff, sub_eq_zero] at hnear
  exact ⟨hfin, mul_right_cancel₀ (by omega) hnear⟩

/-- A fraction that is the value of a finite pattern is rounded to that pattern; for a zero its sign has to be given. -/
theorem rnd16_eq_of_exact {num : Int} {den : Nat} {zs : Bool} (hd : 0 < den) {x : F16} (hx : isFinite16 x = true)
    (hexact : num * 2 ^ 24 = val24 x * den) (hzero : num = 0 → zs = sign16 x) : rnd16 num den zs = x := by
  refine eq_of_sign16_val24 ?_ (rnd16_exact zs hd hx hexact).2
  rw [(rnd16_spec num den zs).2]
  split
  · next h0 => exact hzero h0
  · next h0 =>
    have hval : val24 x ≠ 0 := fun hv => by rw [hv] at hexact; omega
    have hd' : (0 : Int) < den := by omega
    rw [sign16_of_val24_ne_zero hval]
    refine decide_eq_decide.mpr ?_
    rw [← mul_lt_mul_iff_of_pos_right (b := val24 x) hd', zero_mul, ← hexact]
    omega

theorem mul16_finite {a b : F16} (ha : isFinite16 a = true) (hb : isFinite16 b = true) :
    mul16 a b = rnd16 (val24 a * val24 b) (2 ^ 48) (sign16 a ^^ sign16 b) := by
  simp [mul16, isNaN16_of_isFinite16, isInf16_of_isFinite16, ha, hb]

theorem add16_finite {a b : F16} (ha : isFinite16 a = true) (hb : isFinite16 b = true) :
    add16 a b = if val24 a + val24 b = 0 then signedZero16 (sign16 a && sign16 b)
      else rnd16 (val24 a + val24 b) (2 ^ 24) false := by
  simp [add16, isNaN16_of_isFinite16, isInf16_of_isFinite16, ha, hb]

/-- Multiplying by 1.0 changes nothing but a NaN. -/
theorem mul16_one {x : F16} (hn : isNaN16 x = false) : mul16 x one16 = x := by
  have hsign : (sign16 x ^^ sign16 one16) = sign16 x := by
    rw [show sign16 one16 = false by decide, Bool.xor_false]
  cases hi : isInf16 x with
  | true =>
    have hinf : mul16 x one16 = signedInf16 (sign16 x ^^ sign16 one16) := by
      simp [mul16, hn, hi, show isNaN16 one16 = false by decide, show isInf16 one16 = false by decide,
        show isZero16 one16 = false by decide]
    rw [hinf, hsign, signedInf16_of_isInf16 hi]
  | false =>
    have hfin := isFinite16_of_isNaN16_isInf16 hn hi
    rw [mul16_finite hfin (by decide), hsign, show val24 one16 = 2 ^ 24 by decide]
    exact rnd16_eq_of_exact (by decide) hfin (by push_cast; ring) fun _ => rfl

/-- The half of a finite value is a finite value when it is at least 2048 units, or even. -/
theorem exists_half {x : F16} (hx : isFinite16 x = true) (h : 2048 ≤ mag24 x ∨ mag24 x % 2 = 0) :
    ∃ y, isFinite16 y = true ∧ 2 * val24 y = val24 x := by
  have hexpo := expo16_lt x
  have hne := (isFinite16_iff x).mp hx
  have hhalf : ∀ e f, e.toNat < 31 → 2 * mag24 (pack16 (sign16 x) e f) = mag24 x →
      ∃ y, isFinite16 y = true ∧ 2 * val24 y = val24 x := fun e f he hm => by
    refine ⟨pack16 (sign16 x) e f, isFinite16_pack16 _ f he, ?_⟩
    rw [val24, val24, sign16_pack16, ← hm]
    split <;> push_cast <;> ring
  rcases Nat.lt_or_ge (expo16 x) 2 with hlow | hhigh
  · have hmag : mag24 x < 2048 :=
      lt_of_lt_of_le (mag24_lt x) (Nat.pow_le_pow_right (j := 11) (by decide) (by omega))
    refine hhalf 0#5 (BitVec.ofNat 10 (mag24 x / 2)) (by decide) ?_
    rw [mag24_pack16, if_pos (by decide), BitVec.toNat_ofNat]
    omega
  · have he : (BitVec.ofNat 5 (expo16 x - 1)).toNat = expo16 x - 1 := by rw [BitVec.toNat_ofNat]; omega
    refine hhalf (BitVec.ofNat 5 (expo16 x - 1)) (x.extractLsb' 0 10) (by omega) ?_
    rw [mag24_pack16, he, if_neg (by omega), mag24_of_expo16_pos (by omega),
      show expo16 x - 1 = expo16 x - 1 - 1 + 1 by omega, Nat.pow_succ, frac16, Nat.add_sub_cancel]
    ring

/-- Halving is exact whenever the half is a value. -/
theorem val24_mul16_half {x : F16} (hx : isFinite16 x = true) (h : 2048 ≤ mag24 x ∨ mag24 x % 2 = 0) :
    2 * val24 (mul16 x half16) = val24 x := by
  obtain ⟨y, hy, hhalf⟩ := exists_half hx h
  rw [mul16_finite hx (by decide), (rnd16_exact _ (by decide) hy ?_).2, hhalf]
  rw [← hhalf, show val24 half16 = 2 ^ 23 by decide]
  push_cast; ring

/-- Adding +0 changes nothing but a NaN and -0. -/
theorem add16_zero {x : F16} (hn : isNaN16 x = false) (hneg : x ≠ 0x8000#16) : add16 x zero16 = x := by
  cases hi : isInf16 x with
  | true =>
    simp [add16, hn, hi, show isNaN16 zero16 = false by decide, show isInf16 zero16 = false by decide]
  | false =>
    have hfin := isFinite16_of_isNaN16_isInf16 hn hi
    rw [add16_finite hfin (by decide), val24_zero16, add_zero,
      sign16_zero16, Bool.and_false]
    split
    · next h0 =>
      have hsign : sign16 x = false := by
        cases hs : sign16 x with
        | false => rfl
        | true => exact absurd (eq_of_sign16_val24 (y := 0x8000#16) hs h0) hneg
      exact eq_of_sign16_val24 ((sign16_signedZero16 false).trans hsign.symm) ((val24_signedZero16 false).trans h0.symm)
    · next h0 => exact rnd16_eq_of_exact (by decide) hfin (by push_cast; ring) fun h => absurd h h0

/-- A finite value times +0 is the zero of its sign. -/
theorem mul16_zero {x : F16} (hx : isFinite16 x = true) : mul16 x zero16 = signedZero16 (sign16 x) := by
  rw [mul16_finite hx (by decide), val24_zero16, mul_zero, rnd16_zero,
    sign16_zero16, Bool.xor_false]

/-- Settles O45: 1.0, 0.5 and +0 make the exact result a value, and a rounding keeps a value. -/
theorem identitiesOfThePrimitives : Obligations.IdentitiesOfThePrimitives := by
  refine ⟨fun _ => mul16_one, fun _ => val24_mul16_half, fun _ => add16_zero, by decide, fun x hx => ?_⟩
  rw [mul16_zero hx]
  exact ⟨isZero16_signedZero16 _, sign16_signedZero16 _⟩

end Sys2Proof.Machine
end

section
/-! PROOFS. The ring buffers (41_ring_buffer.md): the snapshot as a first-in, first-out queue of 250 values (R141 to
R143, R145), and the ingest of a STEP (R144). -/

namespace Sys2Proof.Machine

/-! ### One push, seen in the snapshot -/

/-- The oldest value but one stands where the oldest stands after a push. -/
theorem slotAfter_nextSlot_castSucc (i : Slot) (j : Fin 249) :
    slotAfter (nextSlot i) j.castSucc = slotAfter i j.succ :=
  Fin.ext (by simp only [slotAfter, nextSlot, Fin.val_castSucc, Fin.val_succ]; omega)

/-- The newest value after a push stands where the cursor was. -/
theorem slotAfter_nextSlot_last (i : Slot) : slotAfter (nextSlot i) (Fin.last 249) = i :=
  Fin.ext (by have := i.isLt; simp only [slotAfter, nextSlot, Fin.val_last]; omega)

theorem slotAfter_succ_ne (i : Slot) (j : Fin 249) : slotAfter i j.succ ≠ i := fun h => by
  have hval := congrArg Fin.val h
  have hi := i.isLt
  have hj := j.isLt
  simp only [slotAfter, Fin.val_succ] at hval
  omega

/-- A snapshot is its oldest value and the 249 others. -/
theorem rbSnapshot_eq_cons (c : Channel) (s : State) :
    rbSnapshot c s = snapshotAt c 0 s :: (List.finRange 249).map fun j => snapshotAt c j.succ s := by
  rw [rbSnapshot, List.finRange_succ (n := 249), List.map_cons, List.map_map]
  rfl

/-- A snapshot is the 249 older values and its newest one. -/
theorem rbSnapshot_eq_concat (c : Channel) (s : State) :
    rbSnapshot c s =
      ((List.finRange 249).map fun j => snapshotAt c j.castSucc s) ++ [snapshotAt c (Fin.last 249) s] := by
  rw [rbSnapshot, List.finRange_succ_last (n := 249), List.map_append, List.map_map]
  rfl

/-- R141 and R142: a push drops the oldest value of its channel and puts the new one last. -/
theorem rbSnapshot_rbPush_same (c : Channel) (v : F16) (s : State) (h : Memory.wf s.rb = true) :
    rbSnapshot c (rbPush c v s) = (rbSnapshot c s).tail ++ [v] := by
  have hcur : (rbPush c v s).cur[c] = nextSlot s.cur[c] := by rw [rbPush_cur, if_pos rfl]
  have holder : ∀ j : Fin 249, snapshotAt c j.castSucc (rbPush c v s) = snapshotAt c j.succ s := fun j => by
    rw [snapshotAt, hcur, slotAfter_nextSlot_castSucc, rbPush_slot c v s h,
      if_neg fun he => slotAfter_succ_ne _ j he.2, snapshotAt]
  have hnewest : snapshotAt c (Fin.last 249) (rbPush c v s) = v := by
    rw [snapshotAt, hcur, slotAfter_nextSlot_last, rbPush_slot c v s h, if_pos ⟨rfl, rfl⟩]
  rw [rbSnapshot_eq_concat, rbSnapshot_eq_cons, List.tail_cons, hnewest]
  simp only [holder]

theorem rbSnapshot_rbPush_other {c c' : Channel} (hne : c' ≠ c) (v : F16) (s : State) (h : Memory.wf s.rb = true) :
    rbSnapshot c' (rbPush c v s) = rbSnapshot c' s := by
  have hcur : (rbPush c v s).cur[c'] = s.cur[c'] := by rw [rbPush_cur, if_neg hne]
  refine List.map_congr_left fun j _ => ?_
  rw [snapshotAt, hcur, rbPush_slot c v s h, if_neg fun he => hne he.1, snapshotAt]

/-! ### Pushes to any channels, in any order -/

/-- The pushes of the list, first to last, each to its own channel. -/
def pushEach (ps : List (Channel × F16)) (s : State) : State := ps.foldl (fun t p => rbPush p.1 p.2 t) s

/-- The values a list of pushes sends to channel c, in push order. -/
def pushedTo (c : Channel) (ps : List (Channel × F16)) : List F16 := (ps.filter fun p => p.1 = c).map Prod.snd

theorem pushEach_cons (c : Channel) (v : F16) (ps : List (Channel × F16)) (s : State) :
    pushEach ((c, v) :: ps) s = pushEach ps (rbPush c v s) := rfl

theorem pushedTo_cons_same (c : Channel) (v : F16) (ps : List (Channel × F16)) :
    pushedTo c ((c, v) :: ps) = v :: pushedTo c ps := by
  simp [pushedTo]

theorem pushedTo_cons_other {c c' : Channel} (hne : c' ≠ c) (v : F16) (ps : List (Channel × F16)) :
    pushedTo c' ((c, v) :: ps) = pushedTo c' ps := by
  simp [pushedTo, hne.symm]

/-- The ring is a queue: of the stored values followed by the pushed ones, the oldest have left, one for each push. -/
theorem rbSnapshot_pushEach (c : Channel) (ps : List (Channel × F16)) (s : State) (h : Memory.wf s.rb = true) :
    rbSnapshot c (pushEach ps s) = (rbSnapshot c s ++ pushedTo c ps).drop (pushedTo c ps).length := by
  induction ps generalizing s with
  | nil => exact (List.append_nil _).symm
  | cons p ps ih =>
    obtain ⟨c', v⟩ := p
    rw [pushEach_cons, ih _ (rbPush_wf c' v s h)]
    by_cases hc : c = c'
    · subst hc
      rw [rbSnapshot_rbPush_same c v s h, pushedTo_cons_same, rbSnapshot_eq_cons c s, List.tail_cons, List.length_cons,
        List.cons_append, List.drop_succ_cons, List.append_assoc, List.singleton_append]
    · rw [rbSnapshot_rbPush_other hc v s h, pushedTo_cons_other hc]

/-- A cursor advances once for each push to its channel, modulo 250. -/
theorem pushEach_cur (c : Channel) (ps : List (Channel × F16)) (s : State) :
    ((pushEach ps s).cur[c]).val = ((s.cur[c]).val + (pushedTo c ps).length) % 250 := by
  induction ps generalizing s with
  | nil => exact (Nat.mod_eq_of_lt s.cur[c].isLt).symm
  | cons p ps ih =>
    obtain ⟨c', v⟩ := p
    rw [pushEach_cons, ih, rbPush_cur]
    by_cases hc : c = c'
    · subst hc
      rw [if_pos rfl, pushedTo_cons_same, List.length_cons, nextSlot, Nat.mod_add_mod, Nat.add_right_comm,
        Nat.add_assoc]
    · rw [if_neg hc, pushedTo_cons_other hc]

/-- After at least 250 pushes to a channel nothing of its old contents is left. -/
theorem rbSnapshot_pushEach_of_le {c : Channel} {ps : List (Channel × F16)} {s : State} (h : Memory.wf s.rb = true)
    (hlen : 250 ≤ (pushedTo c ps).length) :
    rbSnapshot c (pushEach ps s) = (pushedTo c ps).drop ((pushedTo c ps).length - 250) := by
  rw [rbSnapshot_pushEach c ps s h, List.drop_append, rbSnapshot_length,
    List.drop_eq_nil_of_le (by rw [rbSnapshot_length]; exact hlen), List.nil_append]

/-- Settles O40: the ring is a queue of 250 values (`rbSnapshot_pushEach`), so 250 pushes to its channel replace it. -/
theorem snapshotIsLastPushes : Obligations.SnapshotIsLastPushes :=
  fun _ _ _ => rbSnapshot_pushEach_of_le

/-! ### A full wrap after rb_reset (R145) -/

theorem pushAll_eq_pushEach (c : Channel) (vs : List F16) (s : State) :
    pushAll c vs s = pushEach (vs.map fun v => (c, v)) s := by
  rw [pushAll, pushEach, List.foldl_map]

theorem pushedTo_map_same (c : Channel) (vs : List F16) : pushedTo c (vs.map fun v => (c, v)) = vs := by
  induction vs with
  | nil => rfl
  | cons v vs ih => rw [List.map_cons, pushedTo_cons_same, ih]

/-- Settles O41: from cursor 0 the 250 pushes bring it round to 0, and they are all the snapshot holds. -/
theorem fullWrapReturnsToStart : Obligations.FullWrapReturnsToStart := by
  intro s c vs hwf hlen
  have hpushed := pushedTo_map_same c vs
  have hcur : (rbReset c s).cur[c] = 0 := by rw [rbReset_cur, if_pos rfl]
  rw [pushAll_eq_pushEach]
  constructor
  · exact Fin.ext (by rw [pushEach_cur, hpushed, hcur, hlen]; rfl)
  · rw [rbSnapshot_pushEach_of_le (rbReset_wf c s hwf) (by rw [hpushed, hlen]), hpushed, hlen]
    rfl

/-! ### The ingest (R144) -/

theorem activeChannels_nodup (nc : Word) : (activeChannels nc).Nodup := (List.nodup_finRange 20).filter _

/-- Pushing the staged samples of different channels writes each one's sample at its own cursor and no other slot. -/
theorem pushSamples_slot (l : List Channel) (hl : l.Nodup) (s : State) (h : Memory.wf s.rb = true) (c : Channel)
    (i : Slot) :
    (l.foldl (fun t c => rbPush c t.chSample[c] t) s).slot c i =
      if c ∈ l ∧ i = s.cur[c] then s.chSample[c] else s.slot c i := by
  induction l generalizing s with
  | nil => simp
  | cons a l ih =>
    obtain ⟨ha, hl⟩ := List.nodup_cons.mp hl
    have hsample : (rbPush a s.chSample[a] s).chSample = s.chSample := rfl
    rw [List.foldl_cons, ih hl _ (rbPush_wf a _ s h), rbPush_slot a _ s h, rbPush_cur, hsample]
    by_cases hc : c = a
    · subst hc
      simp [ha]
    · simp [hc]

theorem pushSamples_cur (l : List Channel) (hl : l.Nodup) (s : State) (c : Channel) :
    (l.foldl (fun t c => rbPush c t.chSample[c] t) s).cur[c] = if c ∈ l then nextSlot s.cur[c] else s.cur[c] := by
  induction l generalizing s with
  | nil => simp
  | cons a l ih =>
    obtain ⟨ha, hl⟩ := List.nodup_cons.mp hl
    rw [List.foldl_cons, ih hl, rbPush_cur]
    by_cases hc : c = a
    · subst hc
      simp [ha]
    · simp [hc]

theorem ingest_slot (nc : Word) (s : State) (h : Memory.wf s.rb = true) (c : Channel) (i : Slot) :
    (ingest nc s).slot c i = if c.val < nc.toNat ∧ i = s.cur[c] then s.chSample[c] else s.slot c i := by
  rw [ingest, pushSamples_slot _ (activeChannels_nodup nc) s h]
  simp only [mem_activeChannels]

theorem ingest_cur (nc : Word) (s : State) (c : Channel) :
    (ingest nc s).cur[c] = if c.val < nc.toNat then nextSlot s.cur[c] else s.cur[c] := by
  rw [ingest, pushSamples_cur _ (activeChannels_nodup nc)]
  simp only [mem_activeChannels]

/-! ### The rings after an accepted STEP (R144) -/

/-- The two states hold the same rings (10_state.md R30 to R32). -/
def sameRings (s t : State) : Prop := t.rb = s.rb ∧ t.cur = s.cur

theorem computationPass_sameRings (nc : Word) (si : F16) (s : State) : sameRings s (computationPass nc si s) := by
  rw [computationPass_frame]
  exact ⟨rfl, rfl⟩

theorem ingest_setControl (nc : Word) (s : State) (p : Control) :
    ingest nc (s.setControl p) = (ingest nc s).setControl p :=
  List.foldl_hom (fun t : State => t.setControl p) fun _ _ => rfl

theorem stepError_of_frameAccepted {s : State} (h : frameAccepted s = true) :
    stepError s.numChannels s.sampleInterval = none := by
  obtain ⟨hnc, hsi⟩ := (Bool.and_eq_true _ _).mp h
  rw [stepError, if_neg (not_lt.mpr (of_decide_eq_true hnc)), hsi]
  rfl

/-- Nothing after the ingest touches a ring, whether the gate opens or not. -/
theorem stepEffect_sameRings {s : State} (h : frameAccepted s = true) :
    sameRings (ingest s.numChannels s) (stepEffect s) := by
  rcases stepEffect_cases s with ⟨code, hcode, -⟩ | ⟨-, -, he⟩ | ⟨-, -, he⟩
  · rw [stepError_of_frameAccepted h] at hcode
    cases hcode
  · rw [he]
    exact ⟨rfl, rfl⟩
  · rw [he]
    exact computationPass_sameRings s.numChannels s.sampleInterval
      (subtractInterval (accumulateElapsed s.sampleInterval (ingest s.numChannels s)))

/-- Settles O28: the active channels are distinct, so the ingest pushes once to each, and the rest of a STEP keeps the
rings. -/
theorem ingestPushesActiveChannels : Obligations.IngestPushesActiveChannels := by
  refine ⟨fun s nc h c i => ⟨ingest_slot nc s h c i, ?_⟩, fun s h => ⟨_, rfl, ?_⟩⟩
  · rw [ingest_cur nc s c]
    split <;> rfl
  · have hrings : sameRings (ingest s.numChannels (s.setControl .compute)) (stepEffect (s.setControl .compute)) :=
      stepEffect_sameRings (s := s.setControl .compute) h
    rw [ingest_setControl] at hrings
    exact hrings

end Sys2Proof.Machine
end

section
/-! PROOFS. The commands (42_commands.md): what a CMD write selects (R167, R168, R175), the checks of STEP (R170) and the
next state of every way a STEP ends. -/

namespace Sys2Proof.Machine

/-! ### Writes that reach no command (R165) -/

/-- Settles O20: a read-only register and a reserved offset both decode to the refused write. -/
theorem writesToReadOnlyRegistersGetBusError : Obligations.WritesToReadOnlyRegistersGetBusError := by
  refine ⟨fun r w hreadOnly => ?_, fun off w hreserved => ?_, exec_wrRoOrReserved⟩
  · rw [decode_wr_offset, writeInstr_of_readOnly hreadOnly]
  · obtain ⟨-, hdecode, -, -⟩ := reservedOffsetsGetBusError off w hreserved
    exact hdecode

/-! ### The interval check (R170, R270) -/

theorem isZero16_iff_mag24 (x : F16) : isZero16 x = true ↔ mag24 x = 0 := by
  simp only [isZero16, Bool.and_eq_true, beq_iff_eq]
  rcases Nat.eq_zero_or_pos (expo16 x) with he | he
  · simp [mag24, he]
  · have hmag : mag24 x ≠ 0 := by
      rw [mag24_of_expo16_pos he]
      positivity
    simp [he.ne', hmag]

theorem isZero16_of_isInf16 {x : F16} (h : isInf16 x = true) : isZero16 x = false := by
  rw [← signedInf16_of_isInf16 h]
  cases sign16 x <;> decide

/-- The places above +0 in the order of R109 are those of the patterns that are neither a zero nor negative. -/
theorem order24_pos_iff (x : F16) : 0 < order24 x ↔ isZero16 x = false ∧ sign16 x = false := by
  cases hi : isInf16 x with
  | true => cases hs : sign16 x <;> simp [order24, hi, hs, isZero16_of_isInf16 hi]
  | false =>
    rw [← Bool.not_eq_true (isZero16 x), isZero16_iff_mag24]
    cases hs : sign16 x <;> simp [order24, hi, val24, hs, Nat.pos_iff_ne_zero]

/-- Settles O27: gt16 with +0 asks for a place above 0 in the order of the values. -/
theorem intervalCheckRefusesNonPositive : Obligations.IntervalCheckRefusesNonPositive := by
  intro si
  obtain ⟨hlt, -, -⟩ := comparisonIsTheOrderOfValues zero16 si
  have hnan : isNaN16 zero16 = false := by decide
  have hplace : order24 zero16 = 0 := by decide
  rw [gt16, hlt, hplace, order24_pos_iff]
  simp only [hnan, true_and]

/-! ### The selection by the whole command word (R85, R167, R175) -/

theorem exec_nop (s : State) : exec .nop s = .next (s.respond .ok) := rfl

theorem exec_init (s : State) : exec .init s = .next ((inCompute initEffect s).respond .ok) := rfl

/-- A CMD write of a reserved word is BAD_CMD. -/
theorem exec_wrCmd_of_reserved {w : Word} (h : (Instr.wrCmd w).wellFormed = true) (s : State) :
    exec (.wrCmd w) s = .next ((s.reject errBadCmd).respond .ok) := by
  obtain ⟨h0, h1, h2⟩ := (wrCmd_wellFormed_iff w).mp h
  rcases execWrCmd_cases w s with ⟨hw, -⟩ | ⟨hw, -⟩ | ⟨hw, -⟩ | ⟨-, -, -, hbad⟩
  · exact absurd hw h0
  · exact absurd hw h1
  · exact absurd hw h2
  · exact hbad

/-- Settles O22, from the write row of CMD for the word 0. -/
theorem nopChangesNothing : Obligations.NopChangesNothing :=
  ⟨decode_wr_offset .cmd 0#32, exec_nop⟩

/-- Settles O26: the words other than 0, 1 and 2 are those WR.CMD is well formed for. -/
theorem reservedCommandIsBadCmd : Obligations.ReservedCommandIsBadCmd := by
  intro s w h0 h1 h2
  have hreserved : (Instr.wrCmd w).wellFormed = true := (wrCmd_wellFormed_iff w).mpr ⟨h0, h1, h2⟩
  exact ⟨decodeOfEncodeIsIdentity (.wrCmd w) hreserved, exec_wrCmd_of_reserved hreserved s⟩

/-! ### STEP does not depend on the control state (10_state.md R38) -/

theorem spectralSum_setControl (nc : Word) (s : State) (p : Control) :
    spectralSum nc (s.setControl p) = (spectralSum nc s).setControl p :=
  List.foldl_hom (init := zeroAcc s) (fun t : State => t.setControl p) fun _ _ => rfl

theorem computationPass_setControl (nc : Word) (si : F16) (s : State) (p : Control) :
    computationPass nc si (s.setControl p) = (computationPass nc si s).setControl p := by
  rw [computationPass, spectralSum_setControl]
  rfl

theorem gateEffect_setControl (nc : Word) (si : F16) (s : State) (p : Control) :
    gateEffect nc si (s.setControl p) = (gateEffect nc si s).setControl p := by
  have hgate : gateClosed (s.setControl p) = gateClosed s := rfl
  have hsub : subtractInterval (s.setControl p) = (subtractInterval s).setControl p := rfl
  rw [gateEffect, gateEffect, hgate, hsub, computationPass_setControl]
  split <;> rfl

theorem stepEffect_setControl (s : State) (p : Control) :
    stepEffect (s.setControl p) = (stepEffect s).setControl p := by
  rw [stepEffect, stepEffect, State.setControl_numChannels, State.setControl_sampleInterval]
  cases stepError s.numChannels s.sampleInterval with
  | some code => rfl
  | none =>
    show gateEffect _ _ (accumulateElapsed _ (ingest _ (s.setControl p))) = _
    rw [ingest_setControl]
    exact gateEffect_setControl _ _ (accumulateElapsed s.sampleInterval (ingest s.numChannels s)) p

/-- STEP has its effect, ends in IDLE and answers OK. -/
theorem exec_step (s : State) : exec .step s = .next (((stepEffect s).setControl .idle).respond .ok) := by
  show Host.Outcome.next (((stepEffect (s.setControl .compute)).setControl .idle).respond .ok) = _
  rw [stepEffect_setControl]
  rfl

/-! ### The ways a STEP ends (R170, R274) -/

theorem frameAccepted_iff (s : State) :
    frameAccepted s = true ↔ s.numChannels.toNat ≤ 20 ∧ gt16 s.sampleInterval zero16 = true := by
  simp [frameAccepted]

theorem stepError_of_channels {nc : Word} (si : F16) (h : 20 < nc.toNat) : stepError nc si = some errNumChannels :=
  if_pos h

theorem stepError_of_interval {nc : Word} {si : F16} (hnc : nc.toNat ≤ 20) (hsi : gt16 si zero16 = false) :
    stepError nc si = some errSampleInterval := by
  rw [stepError, if_neg (not_lt.mpr hnc), hsi]
  rfl

theorem stepEffect_of_error {s : State} {code : BitVec 4}
    (h : stepError s.numChannels s.sampleInterval = some code) : stepEffect s = s.reject code := by
  rw [stepEffect, h]

/-- The ingest and the advance of ELAPSED write the rings and ELAPSED and nothing else. -/
theorem accumulateElapsed_ingest (nc : Word) (si : F16) (s : State) :
    accumulateElapsed si (ingest nc s) = (s.withRings (ingest nc s)).setElapsed (add16 s.elapsed si) := by
  rw [accumulateElapsed, ingest_elapsed]
  exact congrArg (State.setElapsed · (add16 s.elapsed si)) (ingest_frame nc s)

/-- An accepted STEP is its gate, taken after the ingest and the advance of ELAPSED. -/
theorem stepEffect_of_frameAccepted {s : State} (h : frameAccepted s = true) :
    stepEffect s = gateEffect s.numChannels s.sampleInterval
      ((s.withRings (ingest s.numChannels s)).setElapsed (add16 s.elapsed s.sampleInterval)) := by
  rw [stepEffect, stepError_of_frameAccepted h]
  show gateEffect _ _ (accumulateElapsed _ (ingest _ s)) = _
  rw [accumulateElapsed_ingest]

theorem gateEffect_of_closed (nc : Word) (si : F16) (s : State) {v : F16} (h : lt16 v one16 = true) :
    gateEffect nc si (s.setElapsed v) = (s.setElapsed v).accept false :=
  if_pos h

theorem gateEffect_of_open (nc : Word) (si : F16) (s : State) {v : F16} (h : lt16 v one16 = false) :
    gateEffect nc si (s.setElapsed v) = (computationPass nc si (s.setElapsed (sub16 v one16))).accept true :=
  if_neg (Bool.eq_false_iff.mp h)

/-- The pass writes the detection on the sum of the channels' spectra to the result registers, writes the working
memories, and nothing else. -/
theorem computationPass_eq (nc : Word) (si : F16) (s : State) :
    computationPass nc si s = (s.withScratch (computationPass nc si s)).setResult
      (frequency (peak (magnitudes (spectralSumOf nc s))).1 si)
      (BitVec.ofNat 9 (peak (magnitudes (spectralSumOf nc s))).1) (peak (magnitudes (spectralSumOf nc s))).2 := by
  obtain ⟨hfreq, hbin, hmag⟩ := computationPass_results nc si s
  rw [← hfreq, ← hbin, ← hmag]
  exact computationPass_frame nc si s

theorem spectralSumOf_of_sameRings (nc : Word) {s t : State} (h : sameRings s t) :
    spectralSumOf nc t = spectralSumOf nc s := by
  obtain ⟨hrb, hcur⟩ := h
  simp only [spectralSumOf, spectrumOf, rbSnapshot, snapshotAt, State.slot, hrb, hcur]

theorem spectralSumOf_setElapsed (nc : Word) (s : State) (v : F16) :
    spectralSumOf nc (s.setElapsed v) = spectralSumOf nc s :=
  spectralSumOf_of_sameRings nc ⟨rfl, rfl⟩

theorem spectralSumOf_withRings (nc : Word) (s t : State) : spectralSumOf nc (s.withRings t) = spectralSumOf nc t :=
  spectralSumOf_of_sameRings nc ⟨rfl, rfl⟩

/-- Settles O29: each case is one way a STEP ends, and the spectra after the ingest are read from its rings alone. -/
theorem stepFollowsItsPseudocode : Obligations.StepFollowsItsPseudocode := by
  intro s
  refine ⟨fun hnc => ?_, fun hnc hsi => ?_, fun hnc hsi hgate => ?_, fun hnc hsi hgate => ?_⟩
  · rw [exec_step, stepEffect_of_error (stepError_of_channels _ hnc)]
    rfl
  · rw [exec_step, stepEffect_of_error (stepError_of_interval hnc hsi)]
    rfl
  · have hframe := (frameAccepted_iff s).mpr ⟨hnc, hsi⟩
    rw [exec_step, stepEffect_of_frameAccepted hframe, gateEffect_of_closed _ _ _ hgate]
    rfl
  · have hframe := (frameAccepted_iff s).mpr ⟨hnc, hsi⟩
    refine ⟨_, exec_step s, ?_⟩
    rw [stepEffect_of_frameAccepted hframe, gateEffect_of_open _ _ _ hgate, computationPass_eq,
      spectralSumOf_setElapsed, spectralSumOf_withRings, frequency]
    simp only [State.respond, State.setControl, State.accept, State.setStatus, State.setResult, State.withScratch,
      State.setElapsed, State.withRings]

/-! ### WR.CMD on the three command words (log 3) -/

theorem initEffect_elapsed (s : State) : (initEffect s).elapsed = 0x0000#16 := by
  rw [initEffect, rbResetAll_frame]
  rfl

@[simp] theorem ingest_responses (nc : Word) (s : State) : (ingest nc s).responses = s.responses :=
  (congrArg State.responses (ingest_frame nc s)).trans rfl

@[simp] theorem computationPass_responses (nc : Word) (si : F16) (s : State) :
    (computationPass nc si s).responses = s.responses :=
  (congrArg State.responses (computationPass_frame nc si s)).trans rfl

theorem stepEffect_responses (s : State) : (stepEffect s).responses = s.responses := by
  rcases stepEffect_cases s with ⟨code, -, h⟩ | ⟨-, -, h⟩ | ⟨-, -, h⟩
  · rw [h, State.reject_responses]
  · rw [h, State.accept_responses, accumulateElapsed, State.setElapsed_responses, ingest_responses]
  · rw [h, State.accept_responses, computationPass_responses, subtractInterval, State.setElapsed_responses,
      accumulateElapsed, State.setElapsed_responses, ingest_responses]

/-- Settles O25: WR.CMD on a command word has the meaning of the command's own instruction. -/
theorem cmdWriteSelectsByWholeWord : Obligations.CmdWriteSelectsByWholeWord := by
  intro s
  have hinit : exec (.wrCmd 1#32) s = exec .init s := rfl
  have hstep : exec (.wrCmd 2#32) s = exec .step s := rfl
  refine ⟨rfl, ⟨hinit, _, hinit.trans (exec_init s), ?_, rfl, rfl⟩, hstep, _, hstep.trans (exec_step s), ?_⟩
  · rw [State.respond_elapsed, inCompute, State.setControl_elapsed, initEffect_elapsed]
  · rw [State.respond_responses, State.setControl_responses, stepEffect_responses]

end Sys2Proof.Machine
end

section
/-! PROOFS. The cadence gate (43_cadence.md): what an accepted STEP answers as a function of ELAPSED and the interval
(R190 to R192, R197), the interval too small to open the gate (R196 (b)) and the cadence of 25 (R194). -/

namespace Sys2Proof.Machine

/-! ### The gate of an accepted STEP (R190 to R192) -/

/-- ELAPSED after an accepted STEP: the sum, less 1.0 when the gate opened (R190, R192). -/
def elapsedAfterStep (elapsed si : F16) : F16 :=
  if lt16 (add16 elapsed si) one16 then add16 elapsed si else sub16 (add16 elapsed si) one16

theorem elapsedAfterStep_of_closed {elapsed si : F16} (h : lt16 (add16 elapsed si) one16 = true) :
    elapsedAfterStep elapsed si = add16 elapsed si := if_pos h

theorem elapsedAfterStep_of_open {elapsed si : F16} (h : lt16 (add16 elapsed si) one16 = false) :
    elapsedAfterStep elapsed si = sub16 (add16 elapsed si) one16 := if_neg (Bool.eq_false_iff.mp h)

theorem stepEffect_gate {s : State} (h : frameAccepted s = true) :
    (stepEffect s).ready = gateOpens s ∧ (stepEffect s).errcode = 0#4 ∧
      (stepEffect s).elapsed = elapsedAfterStep s.elapsed s.sampleInterval := by
  rw [stepEffect_of_frameAccepted h, gateOpens]
  cases hgate : lt16 (add16 s.elapsed s.sampleInterval) one16 with
  | true =>
    rw [gateEffect_of_closed _ _ _ hgate, elapsedAfterStep_of_closed hgate]
    exact ⟨rfl, rfl, rfl⟩
  | false =>
    rw [gateEffect_of_open _ _ _ hgate, elapsedAfterStep_of_open hgate]
    exact ⟨rfl, rfl, computationPass_elapsed s.numChannels s.sampleInterval _⟩

/-- READY, ERRCODE and ELAPSED after an accepted STEP. -/
theorem exec_step_gate {s t : State} (h : frameAccepted s = true) (hexec : exec .step s = .next t) :
    t.ready = gateOpens s ∧ t.errcode = 0#4 ∧ t.elapsed = elapsedAfterStep s.elapsed s.sampleInterval := by
  rw [exec_step] at hexec
  cases hexec
  exact stepEffect_gate h

/-- STEP leaves the frame it reads as staged (42_commands.md R171). -/
theorem exec_step_keeps_frame {s t : State} (hexec : exec .step s = .next t) :
    t.numChannels = s.numChannels ∧ t.sampleInterval = s.sampleInterval := by
  rw [exec_step] at hexec
  cases hexec
  exact stepEffect_frame s

/-- Settles O36: READY and ELAPSED are the two functions of ELAPSED and the interval above. -/
theorem gateReadsOnlyElapsedAndInterval : Obligations.GateReadsOnlyElapsedAndInterval := by
  intro s s' t t' hs hs' helapsed hinterval hexec hexec'
  obtain ⟨hready, -, hnext⟩ := exec_step_gate hs hexec
  obtain ⟨hready', -, hnext'⟩ := exec_step_gate hs' hexec'
  rw [hready, hready', hnext, hnext', gateOpens, gateOpens, helapsed, hinterval]
  exact ⟨rfl, rfl⟩

/-! ### The smallest interval (R196 (b)) -/

/-- Up to 0x0800, the end of the first normal binade, a pattern read as a number counts its units of 2^-24. -/
theorem isFinite16_and_val24_of_toNat_le {x : F16} (h : x.toNat ≤ 0x0800) :
    isFinite16 x = true ∧ val24 x = x.toNat := by
  have hsign : sign16 x = false := by
    rw [sign16, BitVec.getLsbD, Nat.testBit_eq_decide_div_mod_eq]
    exact decide_eq_false (by omega)
  have hexpo : expo16 x = x.toNat / 1024 := by
    rw [expo16, field_toNat]; omega
  have hfrac : frac16 x = x.toNat % 1024 := by
    rw [frac16, field_toNat]; omega
  have hbinade : expo16 x = 0 ∨ expo16 x = 1 ∨ expo16 x = 2 := by omega
  refine ⟨(isFinite16_iff x).mpr (by omega), ?_⟩
  rw [val24, hsign, mag24]
  rcases hbinade with he | he | he <;> simp [he] <;> omega

/-- Every pattern up to 0x0800 is below 1.0. -/
theorem lt16_one_of_toNat_le {x : F16} (h : x.toNat ≤ 0x0800) : lt16 x one16 = true := by
  obtain ⟨hfin, hval⟩ := isFinite16_and_val24_of_toNat_le h
  have hone : val24 one16 = 2 ^ 24 := by decide
  rw [lt16_finite (isNaN16_of_isFinite16 hfin) (by decide) (isInf16_of_isFinite16 hfin) (by decide), hval, hone]
  exact decide_eq_true (by omega)

/-- Adding one unit is exact below 0x0800 and is rounded back there: the tie goes to the even pattern. -/
theorem toNat_add16_unit {e : F16} (h : e.toNat ≤ 0x0800) :
    (add16 e 0x0001#16).toNat = min (e.toNat + 1) 0x0800 := by
  rcases h.eq_or_lt with htop | hlt
  · have he : e = 0x0800#16 := BitVec.eq_of_toNat_eq htop
    subst he
    decide
  · have hnext : (BitVec.ofNat 16 (e.toNat + 1)).toNat = e.toNat + 1 := by
      rw [BitVec.toNat_ofNat]; omega
    obtain ⟨hfin, hval⟩ := isFinite16_and_val24_of_toNat_le h
    obtain ⟨hfin', hval'⟩ := isFinite16_and_val24_of_toNat_le (x := BitVec.ofNat 16 (e.toNat + 1)) (by omega)
    have hunit : val24 0x0001#16 = 1 := by decide
    have hne : (e.toNat : Int) + 1 ≠ 0 := by omega
    have hsum : add16 e 0x0001#16 = BitVec.ofNat 16 (e.toNat + 1) := by
      rw [add16_finite hfin (by decide), hval, hunit, if_neg hne]
      refine rnd16_eq_of_exact (by decide) hfin' ?_ fun h0 => absurd h0 hne
      rw [hval', hnext]
      push_cast; ring
    rw [hsum, hnext]
    omega

/-- Settles O38: the sum stays at most 0x0800, far below 1.0. -/
theorem tinyIntervalNeverOpensGate : Obligations.TinyIntervalNeverOpensGate := by
  intro s hchannels hinterval helapsed
  have hframe : frameAccepted s = true :=
    (frameAccepted_iff s).mpr ⟨hchannels, by rw [hinterval]; decide⟩
  have hsum := toNat_add16_unit helapsed
  have hclosed : lt16 (add16 s.elapsed 0x0001#16) one16 = true := lt16_one_of_toNat_le (by omega)
  obtain ⟨t, hexec⟩ := exec_answers_next .step s
  obtain ⟨hready, -, hnext⟩ := exec_step_gate hframe hexec
  refine ⟨t, hexec, ?_, ?_⟩
  · rw [hready, gateOpens, hinterval, hclosed]; rfl
  · rw [hnext, hinterval, elapsedAfterStep_of_closed hclosed, hsum]

/-! ### Rows of STEP commands -/

/-- What every STEP of a row keeps, with the number of STEPs so far, holds after the row. -/
theorem stepCommands_induction {P : Nat → State → Prop} {s : State} (hstart : P 0 s)
    (hstep : ∀ n u, P n u → ∃ t, exec .step u = .next t ∧ P (n + 1) t) (n : Nat) :
    ∃ t, stepCommands n s = .next t ∧ P n t := by
  induction n generalizing P s with
  | zero => exact ⟨s, rfl, hstart⟩
  | succ n ih =>
    obtain ⟨u, hexec, hu⟩ := hstep 0 s hstart
    rw [stepCommands_succ hexec]
    exact ih (P := fun m => P (m + 1)) hu fun m => hstep (m + 1)

/-! ### The cadence of 25 (R194) -/

/-- ELAPSED after k additions of 0x291F from +0. -/
def cadenceSum (k : Nat) : F16 := (fun e => add16 e 0x291F#16)^[k] 0x0000#16

theorem cadenceSum_succ (k : Nat) : cadenceSum (k + 1) = add16 (cadenceSum k) 0x291F#16 :=
  Function.iterate_succ_apply' _ _ _

/-- The table of R194. -/
def cadenceTable : List F16 :=
  [0x291F#16, 0x2D1F#16, 0x2FAE#16, 0x311F#16, 0x3267#16, 0x33AF#16, 0x347B#16, 0x351F#16, 0x35C3#16, 0x3667#16,
   0x370B#16, 0x37AF#16, 0x3829#16, 0x387B#16, 0x38CD#16, 0x391F#16, 0x3971#16, 0x39C3#16, 0x3A15#16, 0x3A67#16,
   0x3AB9#16, 0x3B0B#16, 0x3B5D#16, 0x3BAF#16, 0x3C00#16]

/-- Each entry of the table is the sum of the entry before it and the interval. -/
theorem cadenceTable_tail : cadenceTable.tail = (cadenceTable.map (add16 · 0x291F#16)).take 24 := by decide

theorem getElem?_cadenceTable {k : Nat} (hk : k < 25) : cadenceTable[k]? = some (cadenceSum (k + 1)) := by
  induction k with
  | zero => decide
  | succ k ih =>
    rw [← List.getElem?_tail, cadenceTable_tail, List.getElem?_take_of_lt (by omega), List.getElem?_map,
      ih (by omega), cadenceSum_succ (k + 1)]
    rfl

theorem cadenceSum_table : (List.range 25).map (fun k => cadenceSum (k + 1)) = cadenceTable := by
  refine List.ext_getElem? fun k => ?_
  rcases Nat.lt_or_ge k 25 with hk | hk
  · rw [getElem?_cadenceTable hk, List.getElem?_map, List.getElem?_range hk]; rfl
  · rw [List.getElem?_eq_none (by simpa using hk), List.getElem?_eq_none hk]

theorem cadenceSum_period : cadenceSum 25 = one16 :=
  (Option.some.inj (getElem?_cadenceTable (k := 24) (by decide))).symm

/-- Every entry of the table but the last is below 1.0. -/
theorem cadenceSum_lt_one (k : Nat) (hk : k < 24) : lt16 (cadenceSum (k + 1)) one16 = true := by
  have hbelow : (cadenceTable.take 24).all (lt16 · one16) = true := by decide
  refine List.all_eq_true.mp hbelow _ (List.mem_of_getElem? (i := k) ?_)
  rw [List.getElem?_take_of_lt hk, getElem?_cadenceTable (by omega)]

theorem one16_opens_gate : lt16 one16 one16 = false := by decide

theorem sub16_one16_self : sub16 one16 one16 = zero16 := by decide

/-- Inside a period the gate is closed and the sum goes on; the 25th STEP opens it and starts the period again. -/
theorem cadenceSum_step {k : Nat} (hk : k < 25) :
    (!lt16 (add16 (cadenceSum k) 0x291F#16) one16) = decide ((k + 1) % 25 = 0) ∧
      elapsedAfterStep (cadenceSum k) 0x291F#16 = cadenceSum ((k + 1) % 25) := by
  have hsum := cadenceSum_succ k
  rcases (Nat.lt_succ_iff.mp hk).eq_or_lt with rfl | hlt
  · rw [cadenceSum_period] at hsum
    rw [elapsedAfterStep_of_open (by rw [← hsum]; exact one16_opens_gate), ← hsum, one16_opens_gate, sub16_one16_self]
    exact ⟨rfl, rfl⟩
  · have hclosed : lt16 (add16 (cadenceSum k) 0x291F#16) one16 = true := hsum ▸ cadenceSum_lt_one k hlt
    rw [elapsedAfterStep_of_closed hclosed, hclosed, ← hsum, Nat.mod_eq_of_lt (by omega)]
    exact ⟨rfl, rfl⟩

/-- The registers the cadence turns on, n STEPs after a state with the interval 0x291F and ELAPSED +0. -/
structure CadenceState (n : Nat) (s : State) : Prop where
  channels : s.numChannels.toNat ≤ 20
  interval : s.sampleInterval = 0x291F#16
  elapsed : s.elapsed = cadenceSum (n % 25)
  status : 0 < n → s.ready = decide (n % 25 = 0) ∧ s.errcode = 0#4

theorem CadenceState.frameAccepted {n : Nat} {s : State} (h : CadenceState n s) : frameAccepted s = true :=
  (frameAccepted_iff s).mpr ⟨h.channels, by rw [h.interval]; decide⟩

theorem CadenceState.exec_step {n : Nat} {s : State} (h : CadenceState n s) :
    ∃ t, exec .step s = .next t ∧ CadenceState (n + 1) t := by
  obtain ⟨t, hexec⟩ := exec_answers_next .step s
  obtain ⟨hready, herr, hnext⟩ := exec_step_gate h.frameAccepted hexec
  obtain ⟨hnc, hsi⟩ := exec_step_keeps_frame hexec
  obtain ⟨hgate, hsum⟩ := cadenceSum_step (k := n % 25) (Nat.mod_lt _ (by decide))
  rw [Nat.mod_add_mod] at hgate hsum
  rw [gateOpens, h.elapsed, h.interval, hgate] at hready
  rw [h.elapsed, h.interval, hsum] at hnext
  exact ⟨t, hexec, hnc ▸ h.channels, hsi.trans h.interval, hnext, fun _ => ⟨hready, herr⟩⟩

/-- Settles O39: the sums are evaluated, and each STEP moves on in the period (`CadenceState.exec_step`). -/
theorem cadenceOfPointZeroFourIsTwentyFive : Obligations.CadenceOfPointZeroFourIsTwentyFive := by
  refine ⟨cadenceSum_table, cadenceSum_lt_one, one16_opens_gate, sub16_one16_self, ?_⟩
  intro s n hchannels hinterval helapsed
  have hstart : CadenceState 0 s := ⟨hchannels, hinterval, helapsed, fun h => absurd h (Nat.lt_irrefl 0)⟩
  obtain ⟨t, hrun, ht⟩ := stepCommands_induction hstart (fun _ _ => CadenceState.exec_step) (n + 1)
  obtain ⟨hready, herr⟩ := ht.status n.succ_pos
  exact ⟨t, hrun, hready, herr, ht.elapsed⟩

end Sys2Proof.Machine
end

section
/-! SUPPORT. Sums and products with a zero (40_fp16.md R104 to R107): what a zero of either sign does to the other
operand, on either side. -/

namespace Sys2Proof.Machine

/-! ### The order of the operands -/

/-- A sum does not depend on the order: two infinities of one sign are the same pattern. -/
theorem add16_comm (a b : F16) : add16 a b = add16 b a := by
  cases hai : isInf16 a <;> cases hbi : isInf16 b
  case true.true =>
    by_cases hs : sign16 a = sign16 b
    · rw [← signedInf16_of_isInf16 hai, ← signedInf16_of_isInf16 hbi, hs]
    · simp [add16, hai, hbi, hs, Ne.symm hs]
  all_goals simp [add16, hai, hbi, Bool.or_comm, Bool.and_comm, Int.add_comm]

theorem mul16_comm (a b : F16) : mul16 a b = mul16 b a := by
  simp [mul16, or_comm, and_comm, Bool.xor_comm, Int.mul_comm]

/-! ### The flip of the sign (R105) -/

theorem isFinite16_neg16 (x : F16) : isFinite16 (neg16 x) = isFinite16 x := by
  rw [← pack16_fields x, neg16_pack16, isFinite16, isFinite16, expo16_pack16, expo16_pack16]

theorem neg16_neg16 (x : F16) : neg16 (neg16 x) = x := by simp [neg16]

/-- Only +0 becomes -0. -/
theorem neg16_ne_neg_zero {x : F16} (h : x ≠ zero16) : neg16 x ≠ 0x8000#16 := fun he =>
  h (by rw [← neg16_neg16 x, he]; decide)

/-! ### Zeros -/

theorem neg16_signedZero16 (b : Bool) : neg16 (signedZero16 b) = signedZero16 (!b) := neg16_pack16 _ _ _

theorem signedZero16_false : signedZero16 false = zero16 := by decide

theorem add16_signedZero16_signedZero16 (a b : Bool) :
    add16 (signedZero16 a) (signedZero16 b) = signedZero16 (a && b) := by
  simp [add16_finite]

theorem sub16_signedZero16_signedZero16 (a b : Bool) :
    sub16 (signedZero16 a) (signedZero16 b) = signedZero16 (a && !b) := by
  rw [sub16, neg16_signedZero16, add16_signedZero16_signedZero16]

/-- The patterns that a sum with a zero of either sign leaves as they are: all but the NaNs and -0. -/
def keepsUnderZero (x : F16) : Prop := isNaN16 x = false ∧ x ≠ 0x8000#16

theorem keepsUnderZero_zero16 : keepsUnderZero zero16 := by unfold keepsUnderZero; decide

/-- +0 plus any zero is +0, and to every other such pattern the sign of the zero does not matter. -/
theorem add16_signedZero16 {x : F16} (hx : keepsUnderZero x) (b : Bool) : add16 x (signedZero16 b) = x := by
  by_cases h0 : x = zero16
  · rw [h0, ← signedZero16_false, add16_signedZero16_signedZero16, Bool.false_and]
  obtain ⟨hn, hneg⟩ := hx
  calc add16 x (signedZero16 b) = add16 x zero16 := by
        cases hi : isInf16 x with
        | true => simp [add16, hn, hi, isInf16_of_isFinite16, show isNaN16 zero16 = false by decide,
            show isInf16 zero16 = false by decide]
        | false =>
          have hfin := isFinite16_of_isNaN16_isInf16 hn hi
          have hv : val24 x ≠ 0 := fun hv => by
            cases hs : sign16 x with
            | true => exact hneg (eq_of_sign16_val24 (y := 0x8000#16) hs hv)
            | false => exact h0 (eq_of_sign16_val24 (y := zero16) hs hv)
          rw [add16_finite hfin (isFinite16_signedZero16 b), add16_finite hfin (by decide), val24_signedZero16,
            val24_zero16, add_zero, if_neg hv, if_neg hv]
    _ = x := add16_zero hn hneg

theorem sub16_signedZero16 {x : F16} (hx : keepsUnderZero x) (b : Bool) : sub16 x (signedZero16 b) = x := by
  rw [sub16, neg16_signedZero16, add16_signedZero16 hx]

theorem signedZero16_add16 {x : F16} (hx : keepsUnderZero x) (b : Bool) : add16 (signedZero16 b) x = x := by
  rw [add16_comm, add16_signedZero16 hx]

/-- A finite value times a zero is a zero, signed as a product. -/
theorem mul16_signedZero16 {x : F16} (hx : isFinite16 x = true) (b : Bool) :
    mul16 x (signedZero16 b) = signedZero16 (sign16 x ^^ b) := by
  rw [mul16_finite hx (isFinite16_signedZero16 b), val24_signedZero16, mul_zero, rnd16_zero, sign16_signedZero16]

/-- Adding to +0 keeps a value, but for -0, which becomes +0, and a NaN, which becomes QNAN16 (R222). -/
theorem zero16_add16 (x : F16) :
    add16 zero16 x = if isNaN16 x = true then qnan16 else if x = 0x8000#16 then 0x0000#16 else x := by
  split_ifs with hn hneg
  · simp [add16, hn]
  · rw [hneg]; decide
  · rw [add16_comm]; exact add16_zero (Bool.eq_false_iff.mpr hn) hneg

end Sys2Proof.Machine
end

section
/-! PROOFS. The ROM tables (44_window_rfft.md R210, R213): the window and the twiddles agree with each other, and the
signs and classes of their entries. -/

namespace Sys2Proof.Machine

/-! ### The window HANN (R210) -/

/-- The second half of the window is read from the first. -/
theorem hann_mirror {i : Nat} (h1 : 1 ≤ i) (h : i < 512) : hann (1024 - i) = hann i := by
  have hback : 1024 - (1024 - i) = i := by omega
  rw [hann, hann, if_neg (by omega), if_neg (by omega), hback, if_pos h.le]

theorem hann_symmetric {i : Nat} (h1 : 1 ≤ i) (h : i < 1024) : hann (1024 - i) = hann i := by
  rcases Nat.lt_trichotomy i 512 with hlt | rfl | hgt
  · exact hann_mirror h1 hlt
  · rfl
  · have hback : 1024 - (1024 - i) = i := by omega
    rw [← hann_mirror (i := 1024 - i) (by omega) (by omega), hback]

/-- Every entry a pass reads is a finite value that is not negative. -/
theorem hann_finite_nonneg : ∀ n, n < 250 → isFinite16 (hann n) = true ∧ sign16 (hann n) = false := by decide +kernel

/-! ### The twiddles (R213) -/

theorem cosq_finite_nonneg : ∀ k, k < 257 → isFinite16 (cosq k) = true ∧ sign16 (cosq k) = false := by decide +kernel

theorem cosq_ne_zero : ∀ k, k < 256 → cosq k ≠ zero16 := by decide +kernel

theorem sin1024_eq_cosq {k : Nat} (hk : k < 512) : ∃ j, j < 257 ∧ sin1024 k = cosq j ∧ (1 ≤ k → j < 256) := by
  unfold sin1024
  split_ifs
  · exact ⟨256 - k, by omega, rfl, fun _ => by omega⟩
  · exact ⟨k - 256, by omega, rfl, fun _ => by omega⟩

theorem sin1024_finite_nonneg {k : Nat} (hk : k < 512) :
    isFinite16 (sin1024 k) = true ∧ sign16 (sin1024 k) = false := by
  obtain ⟨j, hj, heq, -⟩ := sin1024_eq_cosq hk
  rw [heq]; exact cosq_finite_nonneg j hj

theorem sin1024_ne_zero {k : Nat} (h1 : 1 ≤ k) (hk : k < 512) : sin1024 k ≠ zero16 := by
  obtain ⟨j, -, heq, hpos⟩ := sin1024_eq_cosq hk
  rw [heq]; exact cosq_ne_zero j (hpos h1)

/-- Every cosine is a finite value and none is -0. -/
theorem cos1024_finite {k : Nat} (hk : k < 512) : isFinite16 (cos1024 k) = true ∧ cos1024 k ≠ 0x8000#16 := by
  unfold cos1024
  split_ifs with h
  · obtain ⟨hfin, hsign⟩ := cosq_finite_nonneg k (by omega)
    exact ⟨hfin, fun he => by rw [he] at hsign; exact absurd hsign (by decide)⟩
  · obtain ⟨hfin, -⟩ := cosq_finite_nonneg (512 - k) (by omega)
    exact ⟨(isFinite16_neg16 _).trans hfin, neg16_ne_neg_zero (cosq_ne_zero _ (by omega))⟩

/-! ### The identities of the two formulas -/

/-- cos^2 + sin^2 is 1 within 2^-10, over the table. -/
theorem cosq_pythagoras : ∀ k, k ≤ 256 →
    |val24 (cosq k) * val24 (cosq k) + val24 (cosq (256 - k)) * val24 (cosq (256 - k)) - 2 ^ 48| ≤ 2 ^ 38 := by
  decide +kernel

/-- The window is 0.5 (1 - cos) within 2^-12, over the two tables. -/
theorem hann_from_cosine : ∀ i, i < 512 → |2 * val24 (hann i) - (2 ^ 24 - val24 (cos1024 i))| ≤ 2 ^ 13 := by
  decide +kernel

/-- Settles O52: the two bounds are checked entry by entry, and the symmetry is how `hann` reads its second half. -/
theorem romTablesAgree : Obligations.RomTablesAgree :=
  ⟨cosq_pythagoras, hann_from_cosine, fun _ => hann_symmetric⟩

end Sys2Proof.Machine
end

section
/-! PROOFS. The way of the samples into the transform: the taper and the zero-fill (44_window_rfft.md R211, R212), the
packing (R214) and the bit reversal (R215). -/

namespace Sys2Proof.Machine

/-! ### Taper and zero-fill (R211, R212) -/

/-- The tapered samples, before the zero-fill. -/
def tapered (snap : List F16) : List F16 := List.zipWith mul16 snap ((List.range 250).map hann)

theorem taper_eq (snap : List F16) : taper snap = tapered snap ++ List.replicate 774 zero16 := rfl

theorem tapered_length {snap : List F16} (h : snap.length = 250) : (tapered snap).length = 250 := by
  simp [tapered, h]

theorem tapered_getElem? {snap : List F16} (h : snap.length = 250) {n : Nat} (hn : n < 250) :
    (tapered snap)[n]? = some (mul16 (snap.getD n zero16) (hann n)) := by
  have hs : snap[n]? = some (snap.getD n zero16) := by
    rw [List.getD_eq_getElem _ _ (by omega), List.getElem?_eq_getElem]
  rw [tapered, List.getElem?_zipWith, hs, List.getElem?_map, List.getElem?_range hn]
  rfl

/-- Settles O47: word n comes from the tapered samples below 250 and from the zero-fill above. -/
theorem taperMultipliesThenZeroFills : Obligations.TaperMultipliesThenZeroFills := by
  intro snap h
  refine ⟨taper_length h, fun n hn => ?_, fun n hlo hhi => ?_⟩
  · rw [List.getD_eq_getElem?_getD, taper_eq, List.getElem?_append_left (by rw [tapered_length h]; exact hn),
      tapered_getElem? h hn]
    rfl
  · rw [List.getD_eq_getElem?_getD, taper_eq, List.getElem?_append_right (by rw [tapered_length h]; exact hlo),
      tapered_length h, List.getElem?_replicate, if_pos (by omega)]
    rfl

/-! ### Packing (R214) -/

/-- Packing reads two words per complex value. -/
theorem packPairs_getElem? : ∀ (x : List F16) (n : Nat), 2 * n + 1 < x.length →
    (packPairs x)[n]? = some (x.getD (2 * n) zero16, x.getD (2 * n + 1) zero16)
  | re :: im :: x, 0, _ => rfl
  | re :: im :: x, n + 1, h => by
    rw [packPairs, List.getElem?_cons_succ, packPairs_getElem? x n (by simp only [List.length_cons] at h; omega)]
    rfl
  | [_], n, h => by simp at h
  | [], n, h => by simp at h

/-! ### Bit reversal (R215) -/

/-- The reversal of the m lowest bits of n. -/
def revBits (m n : Nat) : Nat := (List.range m).foldl (fun r i => 2 * r + n / 2 ^ i % 2) 0

theorem rev9_eq_revBits (n : Nat) : rev9 n = revBits 9 n := rfl

theorem revBits_succ (m n : Nat) : revBits (m + 1) n = 2 * revBits m n + n / 2 ^ m % 2 := by
  rw [revBits, List.range_succ, List.foldl_concat]; rfl

theorem revBits_lt (n : Nat) : ∀ m, revBits m n < 2 ^ m
  | 0 => Nat.one_pos
  | m + 1 => by
    have ih := revBits_lt n m
    rw [revBits_succ, Nat.pow_succ]; omega

theorem testBit_revBits (n : Nat) : ∀ m i, i < m → (revBits m n).testBit i = n.testBit (m - 1 - i)
  | m + 1, 0, _ => by
    rw [revBits_succ, Nat.testBit_zero, Nat.testBit_eq_decide_div_mod_eq]
    congr 2; simp
  | m + 1, i + 1, h => by
    have hhalf : (2 * revBits m n + n / 2 ^ m % 2) / 2 = revBits m n := by omega
    rw [revBits_succ, Nat.testBit_succ, hhalf, testBit_revBits n m i (by omega)]
    congr 1; omega

theorem rev9_lt (n : Nat) : rev9 n < 512 := by
  rw [rev9_eq_revBits]; exact revBits_lt n 9

theorem testBit_rev9 (n : Nat) {i : Nat} (hi : i < 9) : (rev9 n).testBit i = n.testBit (8 - i) := by
  rw [rev9_eq_revBits]; exact testBit_revBits n 9 i hi

/-- Reversing the bits twice changes nothing. -/
theorem rev9_rev9 {n : Nat} (hn : n < 512) : rev9 (rev9 n) = n := by
  refine Nat.eq_of_testBit_eq fun i => ?_
  rcases Nat.lt_or_ge i 9 with hi | hi
  · rw [testBit_rev9 _ hi, testBit_rev9 _ (by omega), show 8 - (8 - i) = i by omega]
  · have hpow : 2 ^ 9 ≤ 2 ^ i := Nat.pow_le_pow_right (by decide) hi
    rw [Nat.testBit_lt_two_pow (lt_of_lt_of_le (rev9_lt _) hpow), Nat.testBit_lt_two_pow (lt_of_lt_of_le hn hpow)]

/-- Only position 0 goes to position 0. -/
theorem rev9_ne_zero {n : Nat} (h0 : n ≠ 0) (hn : n < 512) : rev9 n ≠ 0 := fun he => by
  have hback := rev9_rev9 hn
  rw [he] at hback
  exact h0 hback.symm

theorem bitReverse_getElem? (z : List Complex16) {n : Nat} (hn : n < 512) :
    (bitReverse z)[n]? = some (z.getD (rev9 n) (zero16, zero16)) := by
  rw [bitReverse, List.getElem?_map, List.getElem?_range hn]; rfl

/-- Settles O48: packing by recursion on the words, and the value at rev9(n) is z[rev9(rev9(n))], z[n]. -/
theorem packAndBitReversePlaceEachSample : Obligations.PackAndBitReversePlaceEachSample := by
  refine ⟨fun x n hx hn => ?_, fun z n _ hn => ?_, fun n _ i hi => testBit_rev9 n hi, by decide, by decide, by decide⟩
  · rw [List.getD_eq_getElem?_getD, packPairs_getElem? x n (by omega)]; rfl
  · rw [List.getD_eq_getElem?_getD, bitReverse_getElem? z (rev9_lt n), rev9_rev9 hn]; rfl

end Sys2Proof.Machine
end

section
/-! PROOFS. The butterfly stages (44_window_rfft.md R216): where a stage puts the two outputs of each butterfly, and
what the nine stages do to an impulse. -/

namespace Sys2Proof.Machine

/-! ### One block -/

section Block
variable {h j : Nat} {tws ps qs : List Complex16} {tw p q : Complex16}

/-- The upper outputs stand first. -/
theorem blockButterflies_upper (htw : tws[j]? = some tw) (hp : ps[j]? = some p) (hq : qs[j]? = some q) :
    (blockButterflies tws ps qs)[j]? = some (butterflyAdd p (twiddle tw q)) := by
  have hout : (List.zipWith butterflyAdd ps (List.zipWith twiddle tws qs))[j]? =
      some (butterflyAdd p (twiddle tw q)) := by
    simp only [List.getElem?_zipWith, htw, hp, hq]
  rw [blockButterflies, List.getElem?_append_left (List.getElem?_eq_some_iff.mp hout).1, hout]

/-- The lower outputs stand behind the h upper ones. -/
theorem blockButterflies_lower (ht : tws.length = h) (hps : ps.length = h) (hqs : qs.length = h)
    (htw : tws[j]? = some tw) (hp : ps[j]? = some p) (hq : qs[j]? = some q) :
    (blockButterflies tws ps qs)[h + j]? = some (butterflySub p (twiddle tw q)) := by
  have hlen : (List.zipWith butterflyAdd ps (List.zipWith twiddle tws qs)).length = h := by simp [ht, hps, hqs]
  rw [blockButterflies, List.getElem?_append_right (by omega), hlen, Nat.add_sub_cancel_left]
  simp only [List.getElem?_zipWith, htw, hp, hq]

end Block

/-! ### The blocks of a stage -/

/-- Block blk of a stage's output is the butterflies of block blk of its input. -/
theorem stageBlocks_getElem? {h : Nat} {tws : List Complex16} (ht : tws.length = h) {i : Nat} (hi : i < 2 * h) :
    ∀ (blocks blk : Nat) (a : List Complex16), a.length = blocks * (2 * h) → blk < blocks →
      (stageBlocks h tws blocks a)[blk * (2 * h) + i]? =
        (blockButterflies tws ((a.drop (blk * (2 * h))).take h) ((a.drop (blk * (2 * h) + h)).take h))[i]?
  | blocks + 1, blk, a, ha, hblk => by
    rw [Nat.add_mul, Nat.one_mul] at ha
    have hfirst : (blockButterflies tws (a.take h) ((a.drop h).take h)).length = 2 * h :=
      blockButterflies_length ht (by rw [List.length_take]; omega) (by rw [List.length_take, List.length_drop]; omega)
    rw [stageBlocks]
    cases blk with
    | zero =>
      rw [Nat.zero_mul, Nat.zero_add, Nat.zero_add, List.drop_zero, List.getElem?_append_left (by omega)]
    | succ blk =>
      have ih := stageBlocks_getElem? ht hi blocks blk (a.drop (2 * h)) (by rw [List.length_drop]; omega) (by omega)
      rw [List.drop_drop, List.drop_drop] at ih
      rw [Nat.add_mul, Nat.one_mul, List.getElem?_append_right (by omega), hfirst,
        show blk * (2 * h) + 2 * h + i - 2 * h = blk * (2 * h) + i by omega, ih]
      congr 4 <;> omega

/-- The sizes of stage s: m = 2^s is twice h = m / 2, and the 512 / m blocks fill the 512 values. -/
theorem stage_sizes {s : Nat} (h1 : 1 ≤ s) (h9 : s ≤ 9) : 2 * (2 ^ s / 2) = 2 ^ s ∧ 512 / 2 ^ s * 2 ^ s = 512 := by
  interval_cases s <;> decide

theorem stageTwiddles_getElem? {h j : Nat} (st : Nat) (hj : j < h) :
    (stageTwiddles h st)[j]? = some (cos1024 (2 * j * st), sin1024 (2 * j * st)) := by
  rw [stageTwiddles, List.getElem?_map, List.getElem?_range hj]; rfl

/-- A value of a window of the list, by its place in the list. -/
theorem getElem?_take_drop {a : List Complex16} {b h j : Nat} (hj : j < h) (hb : b + j < a.length) :
    ((a.drop b).take h)[j]? = some (a.getD (b + j) (zero16, zero16)) := by
  rw [List.getElem?_take_of_lt hj, List.getElem?_drop, List.getElem?_eq_getElem hb, List.getD_eq_getElem]

section Stage
variable {s blk j : Nat} {a : List Complex16}

/-- The two outputs of butterfly j of block blk (R216). -/
theorem stage_getElem? (h1 : 1 ≤ s) (h9 : s ≤ 9) (ha : a.length = 512) (hblk : blk < 512 / 2 ^ s) (hj : j < 2 ^ s / 2) :
    let p := a.getD (blk * 2 ^ s + j) (zero16, zero16)
    let t := twiddle (cos1024 (2 * j * (512 / 2 ^ s)), sin1024 (2 * j * (512 / 2 ^ s)))
      (a.getD (blk * 2 ^ s + j + 2 ^ s / 2) (zero16, zero16))
    (stage s a)[blk * 2 ^ s + j]? = some (butterflyAdd p t) ∧
      (stage s a)[blk * 2 ^ s + j + 2 ^ s / 2]? = some (butterflySub p t) := by
  obtain ⟨hm, hblocks⟩ := stage_sizes h1 h9
  have hfit : blk * 2 ^ s + 2 ^ s ≤ 512 := by
    rw [← Nat.succ_mul]
    exact le_of_le_of_eq (Nat.mul_le_mul_right _ hblk) hblocks
  have ht := stageTwiddles_length (2 ^ s / 2) (512 / 2 ^ s)
  have htw := stageTwiddles_getElem? (512 / 2 ^ s) hj
  have hp := getElem?_take_drop (a := a) (b := blk * 2 ^ s) hj (by omega)
  have hq := getElem?_take_drop (a := a) (b := blk * 2 ^ s + 2 ^ s / 2) hj (by omega)
  have hout := fun i hi => stageBlocks_getElem? (i := i) ht hi (512 / 2 ^ s) blk a (by rw [hm, ha, hblocks]) hblk
  rw [hm] at hout
  have hplace : blk * 2 ^ s + j + 2 ^ s / 2 = blk * 2 ^ s + (2 ^ s / 2 + j) := by omega
  have hqplace : blk * 2 ^ s + 2 ^ s / 2 + j = blk * 2 ^ s + j + 2 ^ s / 2 := by omega
  rw [hqplace] at hq
  refine ⟨(hout j (by omega)).trans (blockButterflies_upper htw hp hq), ?_⟩
  calc (stage s a)[blk * 2 ^ s + j + 2 ^ s / 2]? = (stage s a)[blk * 2 ^ s + (2 ^ s / 2 + j)]? := by rw [hplace]
    _ = _ := hout _ (by omega)
    _ = _ := blockButterflies_lower ht (by rw [List.length_take, List.length_drop]; omega)
      (by rw [List.length_take, List.length_drop]; omega) htw hp hq

end Stage

theorem stages_eq (a : List Complex16) :
    stages a = stage 9 (stage 8 (stage 7 (stage 6 (stage 5 (stage 4 (stage 3 (stage 2 (stage 1 a)))))))) := rfl

/-- Settles O49, by the two outputs of each butterfly (`stage_getElem?`). -/
theorem stageAppliesEveryButterfly : Obligations.StageAppliesEveryButterfly := by
  refine ⟨stages_eq, fun s blk j a h1 h9 ha hblk hj => ⟨stage_length ⟨h1, h9⟩ ha, ?_⟩⟩
  obtain ⟨hupper, hlower⟩ := stage_getElem? h1 h9 ha hblk hj
  simp only [List.getD_eq_getElem?_getD] at hupper hlower ⊢
  rw [hupper, hlower]
  exact ⟨rfl, rfl⟩

/-! ### Butterflies with a zero lower input -/

/-- The two factors of a twiddle have a value. -/
def finitePair (tw : Complex16) : Prop := isFinite16 tw.1 = true ∧ isFinite16 tw.2 = true

/-- A sum with a zero leaves both parts as they are. -/
def keepsUnderZeroPair (p : Complex16) : Prop := keepsUnderZero p.1 ∧ keepsUnderZero p.2

theorem keepsUnderZeroPair_zero : keepsUnderZeroPair (zero16, zero16) := ⟨keepsUnderZero_zero16, keepsUnderZero_zero16⟩

/-- A finite twiddle turns (+0, +0) into two zeros, whatever their signs. -/
theorem twiddle_zero {tw : Complex16} (htw : finitePair tw) :
    ∃ b c, twiddle tw (zero16, zero16) = (signedZero16 b, signedZero16 c) := by
  obtain ⟨h1, h2⟩ := htw
  rw [← signedZero16_false, twiddle]
  simp only [mul16_signedZero16 h1, mul16_signedZero16 h2, add16_signedZero16_signedZero16,
    sub16_signedZero16_signedZero16]
  exact ⟨_, _, rfl⟩

/-- Butterflies with the lower input (+0, +0) answer their upper input twice. -/
theorem butterflies_zero {tw p : Complex16} (htw : finitePair tw) (hp : keepsUnderZeroPair p) :
    butterflyAdd p (twiddle tw (zero16, zero16)) = p ∧ butterflySub p (twiddle tw (zero16, zero16)) = p := by
  obtain ⟨b, c, ht⟩ := twiddle_zero htw
  obtain ⟨h1, h2⟩ := hp
  rw [ht, butterflyAdd, butterflySub, add16_signedZero16 h1, add16_signedZero16 h2, sub16_signedZero16 h1,
    sub16_signedZero16 h2]
  exact ⟨rfl, rfl⟩

/-- Equal butterflies that answer their upper input answer as many copies of it. -/
theorem zipWith_butterfly_replicate {g : Complex16 → Complex16 → Complex16} {p q : Complex16} :
    ∀ tws : List Complex16, (∀ tw ∈ tws, g p (twiddle tw q) = p) →
      List.zipWith g (List.replicate tws.length p) (List.zipWith twiddle tws (List.replicate tws.length q)) =
        List.replicate tws.length p
  | [], _ => rfl
  | tw :: tws, h => by
    rw [List.length_cons, List.replicate_succ, List.replicate_succ, List.zipWith_cons_cons, List.zipWith_cons_cons,
      h tw List.mem_cons_self, zipWith_butterfly_replicate tws fun t ht => h t (List.mem_cons_of_mem tw ht)]

section Zero
variable {h : Nat} {tws : List Complex16} (ht : tws.length = h) (htws : ∀ tw ∈ tws, finitePair tw)
include ht htws

/-- A block of equal upper inputs over zeros copies its upper half into its lower half. -/
theorem blockButterflies_zero {p : Complex16} (hp : keepsUnderZeroPair p) :
    blockButterflies tws (List.replicate h p) (List.replicate h (zero16, zero16)) = List.replicate (2 * h) p := by
  subst ht
  rw [blockButterflies, zipWith_butterfly_replicate tws fun tw htw => (butterflies_zero (htws tw htw) hp).1,
    zipWith_butterfly_replicate tws fun tw htw => (butterflies_zero (htws tw htw) hp).2,
    List.replicate_append_replicate, Nat.two_mul]

theorem stageBlocks_copies {p : Complex16} (hp : keepsUnderZeroPair p) (blocks : Nat) (rest : List Complex16) :
    stageBlocks h tws (blocks + 1) (List.replicate h p ++ (List.replicate h (zero16, zero16) ++ rest)) =
      List.replicate (2 * h) p ++ stageBlocks h tws blocks rest := by
  rw [stageBlocks, List.take_left' List.length_replicate, List.drop_left' List.length_replicate,
    List.take_left' List.length_replicate, blockButterflies_zero ht htws hp, Nat.two_mul, ← List.drop_drop,
    List.drop_left' List.length_replicate, List.drop_left' List.length_replicate]

theorem stageBlocks_zeros : ∀ blocks : Nat,
    stageBlocks h tws blocks (List.replicate (blocks * (2 * h)) (zero16, zero16)) =
      List.replicate (blocks * (2 * h)) (zero16, zero16)
  | 0 => by rw [Nat.zero_mul]; rfl
  | blocks + 1 => by
    have hsplit : (blocks + 1) * (2 * h) = h + (h + blocks * (2 * h)) := by ring
    conv_lhs => rw [hsplit, ← List.replicate_append_replicate, ← List.replicate_append_replicate]
    rw [stageBlocks_copies ht htws keepsUnderZeroPair_zero, stageBlocks_zeros blocks, List.replicate_append_replicate]
    congr 1; ring

end Zero

/-! ### The stages on an impulse -/

/-- The twiddles of a stage have a value. -/
theorem finitePair_stageTwiddles {s : Nat} (h1 : 1 ≤ s) (h9 : s ≤ 9) :
    ∀ tw ∈ stageTwiddles (2 ^ s / 2) (512 / 2 ^ s), finitePair tw := by
  intro tw htw
  obtain ⟨j, hj, rfl⟩ := List.mem_map.mp htw
  have hk : 2 * j * (512 / 2 ^ s) < 512 := by
    obtain ⟨hm, hblocks⟩ := stage_sizes h1 h9
    have hjm : 2 * j < 2 ^ s := by have := List.mem_range.mp hj; omega
    calc 2 * j * (512 / 2 ^ s) < 2 ^ s * (512 / 2 ^ s) :=
          Nat.mul_lt_mul_of_pos_right hjm (Nat.pos_of_ne_zero fun h0 => by rw [h0] at hblocks; omega)
      _ = 512 := by rw [Nat.mul_comm, hblocks]
  exact ⟨(cos1024_finite hk).1, (sin1024_finite_nonneg hk).1⟩

/-- 512 values that begin with n copies of p and are zero from there on. -/
def copies (n : Nat) (p : Complex16) : List Complex16 := List.replicate n p ++ List.replicate (512 - n) (zero16, zero16)

/-- Every stage doubles the copies of an impulse. -/
theorem stage_copies {s : Nat} (h9 : s + 1 ≤ 9) {p : Complex16} (hp : keepsUnderZeroPair p) :
    stage (s + 1) (copies (2 ^ s) p) = copies (2 ^ (s + 1)) p := by
  have h1 : 1 ≤ s + 1 := s.succ_pos
  obtain ⟨-, hblocks⟩ := stage_sizes h1 h9
  have hhalf : 2 ^ (s + 1) / 2 = 2 ^ s := by rw [Nat.pow_succ]; omega
  have hdouble : 2 * 2 ^ s = 2 ^ (s + 1) := by rw [Nat.pow_succ]; omega
  have htws := finitePair_stageTwiddles h1 h9
  obtain ⟨n, hn⟩ : ∃ n, 512 / 2 ^ (s + 1) = n + 1 :=
    Nat.exists_eq_succ_of_ne_zero fun h0 => by rw [h0] at hblocks; omega
  rw [hn, Nat.add_mul, Nat.one_mul] at hblocks
  have hrest : 512 - 2 ^ s = 2 ^ s + n * (2 * 2 ^ s) := by rw [hdouble]; omega
  have hrest' : 512 - 2 ^ (s + 1) = n * (2 * 2 ^ s) := by rw [hdouble]; omega
  rw [hhalf] at htws
  rw [stage, hhalf, copies, copies, hrest, hrest', ← List.replicate_append_replicate]
  rw [hn] at htws ⊢
  rw [stageBlocks_copies (stageTwiddles_length _ _) htws hp, stageBlocks_zeros (stageTwiddles_length _ _) htws, hdouble]

/-- The first n stages make 2^n copies of an impulse. -/
theorem stages_prefix_copies {p : Complex16} (hp : keepsUnderZeroPair p) : ∀ n, n ≤ 9 →
    (List.range' 1 n).foldl (fun t s => stage s t) (copies 1 p) = copies (2 ^ n) p
  | 0, _ => rfl
  | n + 1, h => by
    rw [List.range'_1_concat, List.foldl_concat, stages_prefix_copies hp n (by omega), Nat.add_comm 1 n,
      stage_copies h hp]

theorem stages_copies {p : Complex16} (hp : keepsUnderZeroPair p) : stages (copies 1 p) = List.replicate 512 p :=
  (stages_prefix_copies hp 9 le_rfl).trans (List.append_nil _)

end Sys2Proof.Machine
end

section
/-! PROOFS. The split (44_window_rfft.md R217, R218) and REF on an impulse at position 1 (R223 (b), log 13). -/

namespace Sys2Proof.Machine

/-! ### The split (R217, R218) -/

/-- In a list of pairs laid out word by word, pair i stands at the words 2i and 2i + 1. -/
theorem flatMap_pairs_getElem? {α β : Type} (f g : α → β) : ∀ (l : List α) (i : Nat),
    (l.flatMap fun a => [f a, g a])[2 * i]? = l[i]?.map f ∧ (l.flatMap fun a => [f a, g a])[2 * i + 1]? = l[i]?.map g
  | [], _ => ⟨rfl, rfl⟩
  | _ :: _, 0 => ⟨rfl, rfl⟩
  | _ :: l, i + 1 => flatMap_pairs_getElem? f g l i

/-- The real part of bin k (R218). -/
def splitRe (z : List Complex16) (k : Nat) : F16 :=
  let a := z.getD k (zero16, zero16); let u := z.getD (512 - k) (zero16, zero16)
  add16 (mul16 (add16 a.1 u.1) half16)
    (add16 (mul16 (cos1024 k) (mul16 (add16 a.2 u.2) half16))
      (mul16 (sin1024 k) (neg16 (mul16 (sub16 a.1 u.1) half16))))

/-- The imaginary part of bin k (R218). -/
def splitIm (z : List Complex16) (k : Nat) : F16 :=
  let a := z.getD k (zero16, zero16); let u := z.getD (512 - k) (zero16, zero16)
  add16 (mul16 (sub16 a.2 u.2) half16)
    (sub16 (mul16 (cos1024 k) (neg16 (mul16 (sub16 a.1 u.1) half16)))
      (mul16 (sin1024 k) (mul16 (add16 a.2 u.2) half16)))

theorem split_eq (z : List Complex16) :
    split z = splitZero (z.getD 0 (zero16, zero16)) ++
      (List.range' 1 511).flatMap fun k => [splitRe z k, splitIm z k] := rfl

/-- Bin k stands at the words 2k and 2k + 1 of the packed spectrum. -/
theorem split_getElem? (z : List Complex16) {k : Nat} (h1 : 1 ≤ k) (hk : k < 512) :
    (split z)[2 * k]? = some (splitRe z k) ∧ (split z)[2 * k + 1]? = some (splitIm z k) := by
  obtain ⟨i, rfl⟩ : ∃ i, k = 1 + i := ⟨k - 1, by omega⟩
  have hbin : (List.range' 1 511)[i]? = some (1 + i) := by rw [List.getElem?_range' (by omega), Nat.one_mul]
  obtain ⟨hre, him⟩ := flatMap_pairs_getElem? (splitRe z) (splitIm z) (List.range' 1 511) i
  rw [hbin] at hre him
  have heven : 2 * (1 + i) = 2 * i + 2 := by omega
  rw [heven, split_eq]
  exact ⟨hre, him⟩

/-! ### REF on an impulse at position 1 -/

theorem packPairs_replicate (x : F16) : ∀ n, packPairs (List.replicate (2 * n) x) = List.replicate n (x, x)
  | 0 => rfl
  | n + 1 => congrArg ((x, x) :: ·) (packPairs_replicate x n)

theorem copies_length (p : Complex16) : (copies 1 p).length = 512 := by
  rw [copies, List.length_append, List.length_replicate, List.length_replicate]

/-- The bit reversal moves z[0] to no other place: an impulse stays where it is. -/
theorem bitReverse_copies_one (p : Complex16) : bitReverse (copies 1 p) = copies 1 p := by
  refine List.ext_getElem? fun n => ?_
  rcases Nat.lt_or_ge n 512 with hn | hn
  · rw [bitReverse_getElem? _ hn]
    cases n with
    | zero => rfl
    | succ n =>
      obtain ⟨m, hm⟩ := Nat.exists_eq_succ_of_ne_zero (rev9_ne_zero n.succ_ne_zero hn)
      have hzero : (List.replicate 511 (zero16, zero16))[n]? = some (zero16, zero16) := by
        rw [List.getElem?_replicate, if_pos (by omega)]
      rw [hm]
      exact (congrArg some (List.getElem?_getD_replicate_default_eq _ 511 m)).trans hzero.symm
  · rw [List.getElem?_eq_none (by rw [bitReverse_length]; exact hn),
      List.getElem?_eq_none (by rw [copies_length]; exact hn)]

/-- An impulse at position 1 is packed as the imaginary part of z[0]. -/
theorem packPairs_impulse (v : F16) : packPairs (zero16 :: v :: List.replicate 1022 zero16) = copies 1 (zero16, v) :=
  congrArg ((zero16, v) :: ·) (packPairs_replicate zero16 511)

theorem refTransform_impulse {v : F16} (hv : keepsUnderZero v) :
    refTransform (zero16 :: v :: List.replicate 1022 zero16) = split (List.replicate 512 (zero16, v)) := by
  rw [refTransform, packPairs_impulse, bitReverse_copies_one,
    stages_copies (p := (zero16, v)) ⟨keepsUnderZero_zero16, hv⟩]

theorem keepsUnderZero_one16 : keepsUnderZero one16 := by unfold keepsUnderZero; decide

/-- With every Z[k] = (+0, 1.0), bin k of the split is the twiddle conjugated. -/
theorem split_ones_bin {k : Nat} (h1 : 1 ≤ k) (hk : k < 512) :
    splitRe (List.replicate 512 (zero16, one16)) k = cos1024 k ∧
      splitIm (List.replicate 512 (zero16, one16)) k = neg16 (sin1024 k) := by
  obtain ⟨hcfin, hcne⟩ := cos1024_finite hk
  obtain ⟨hsfin, -⟩ := sin1024_finite_nonneg hk
  have hcos : keepsUnderZero (cos1024 k) := ⟨isNaN16_of_isFinite16 hcfin, hcne⟩
  have hsin : keepsUnderZero (neg16 (sin1024 k)) :=
    ⟨isNaN16_of_isFinite16 ((isFinite16_neg16 _).trans hsfin), neg16_ne_neg_zero (sin1024_ne_zero h1 hk)⟩
  have her : mul16 (add16 zero16 zero16) half16 = signedZero16 false := by decide
  have hei : mul16 (sub16 one16 one16) half16 = signedZero16 false := by decide
  have hod : mul16 (add16 one16 one16) half16 = one16 := by decide
  have hoi : neg16 (mul16 (sub16 zero16 zero16) half16) = signedZero16 true := by decide
  have hbin : ∀ i, i < 512 → (List.replicate 512 (zero16, one16)).getD i (zero16, zero16) = (zero16, one16) :=
    fun i hi => List.getD_replicate _ hi
  rw [splitRe, splitIm, hbin k hk, hbin (512 - k) (by omega)]
  constructor
  · rw [her, hod, hoi, mul16_one (isNaN16_of_isFinite16 hcfin), mul16_signedZero16 hsfin, add16_signedZero16 hcos,
      signedZero16_add16 hcos]
  · rw [hei, hod, hoi, mul16_one (isNaN16_of_isFinite16 hsfin), mul16_signedZero16 hcfin, sub16,
      signedZero16_add16 hsin, signedZero16_add16 hsin]

theorem refTransform_unit_impulse :
    refTransform (zero16 :: one16 :: List.replicate 1022 zero16) =
      0x3C00#16 :: 0xBC00#16 :: (List.range' 1 511).flatMap fun k => [cos1024 k, neg16 (sin1024 k)] := by
  have hzero : splitZero (zero16, one16) = [0x3C00#16, 0xBC00#16] := by decide
  have hbins : ∀ k ∈ List.range' 1 511,
      [splitRe (List.replicate 512 (zero16, one16)) k, splitIm (List.replicate 512 (zero16, one16)) k] =
        [cos1024 k, neg16 (sin1024 k)] := fun k hk => by
    obtain ⟨h1, h512⟩ := List.mem_range'_1.mp hk
    obtain ⟨hre, him⟩ := split_ones_bin h1 h512
    rw [hre, him]
  rw [refTransform_impulse keepsUnderZero_one16, split_eq, List.getD_replicate _ (by decide), hzero,
    List.flatMap_congr hbins]
  rfl

/-- Settles O50: the words of the split by their places, and the nine stages copy the unit impulse to all 512 values. -/
theorem splitWritesPackedSpectrum : Obligations.SplitWritesPackedSpectrum := by
  refine ⟨fun z _ => ⟨split_length z, rfl, rfl, fun k h1 hk => ?_⟩, by decide, fun _ => rfl, refTransform_unit_impulse⟩
  obtain ⟨hre, him⟩ := split_getElem? z h1 hk
  simp only [List.getD_eq_getElem?_getD (l := split z), hre, him]
  exact ⟨rfl, rfl⟩

/-! ### An infinity at snapshot position 1 (log 13) -/

theorem zero16_mul16_hann {n : Nat} (hn : n < 250) : mul16 zero16 (hann n) = zero16 := by
  obtain ⟨hfin, hsign⟩ := hann_finite_nonneg n hn
  rw [mul16_comm, mul16_zero hfin, hsign, signedZero16_false]

/-- Over a ring of zeros the taper multiplies the sample at position 1 by HANN[1] and leaves the zeros. -/
theorem tapered_impulse (x : F16) :
    tapered (zero16 :: x :: List.replicate 248 zero16) = zero16 :: mul16 x (hann 1) :: List.replicate 248 zero16 := by
  have hlen : ∀ y : F16, (zero16 :: y :: List.replicate 248 zero16).length = 250 := fun y => by
    rw [List.length_cons, List.length_cons, List.length_replicate]
  refine List.ext_getElem? fun n => ?_
  rcases Nat.lt_or_ge n 250 with hn | hn
  · rw [tapered_getElem? (hlen x) hn]
    match n with
    | 0 => exact congrArg some (zero16_mul16_hann hn)
    | 1 => rfl
    | n + 2 =>
      rw [List.getD_cons_succ, List.getD_cons_succ, List.getD_eq_getElem?_getD,
        List.getElem?_getD_replicate_default_eq, zero16_mul16_hann hn, List.getElem?_cons_succ,
        List.getElem?_cons_succ, List.getElem?_replicate, if_pos (by omega)]
  · rw [List.getElem?_eq_none (by rw [tapered_length (hlen x)]; exact hn)]
    exact (List.getElem?_eq_none (le_of_eq_of_le (hlen _) hn)).symm

theorem taper_impulse (x : F16) :
    taper (zero16 :: x :: List.replicate 248 zero16) = zero16 :: mul16 x (hann 1) :: List.replicate 1022 zero16 := by
  rw [taper_eq, tapered_impulse, List.cons_append, List.cons_append, List.replicate_append_replicate]

/-- Settles O58: the tapered infinity is an infinite impulse, which the stages copy to Z[0]. -/
theorem infinityAtPositionOneIsNotNaN : Obligations.InfinityAtPositionOneIsNotNaN := by
  have hinf : mul16 0x7C00#16 (hann 1) = 0x7C00#16 := by decide
  have hkeeps : keepsUnderZero 0x7C00#16 := by unfold keepsUnderZero; decide
  have hzero : splitZero (zero16, 0x7C00#16) = [0x7C00#16, 0xFC00#16] := by decide
  unfold Obligations.InfinityAtPositionOneIsNotNaN
  rw [taper_impulse, hinf, refTransform_impulse hkeeps, split_eq, List.getD_replicate _ (by decide), hzero]
  rfl

end Sys2Proof.Machine
end

section
/-! PROOFS. The spectral sum (44_window_rfft.md R222): the active channels in ascending order, and the sums over none,
one and one more of them. -/

namespace Sys2Proof.Machine

/-! ### The active channels -/

/-- The numbers below n that are below m, in order. -/
theorem filter_lt_range (m : Nat) : ∀ n, (List.range n).filter (fun c => decide (c < m)) = List.range (min m n)
  | 0 => by rw [Nat.min_zero]; rfl
  | n + 1 => by
    rw [List.range_succ, List.filter_append, filter_lt_range m n, List.filter_singleton]
    by_cases h : n < m
    · rw [decide_eq_true h, show min m n = n by omega, show min m (n + 1) = n + 1 by omega, List.range_succ]; rfl
    · rw [decide_eq_false h, show min m (n + 1) = min m n by omega]; exact List.append_nil _

theorem activeChannels_map_val (nc : Word) : (activeChannels nc).map Fin.val = List.range (min nc.toNat 20) := by
  rw [← filter_lt_range, ← List.map_coe_finRange_eq_range (n := 20), List.filter_map]; rfl

theorem activeChannels_zero : activeChannels 0#32 = [] := List.map_eq_nil_iff.mp (activeChannels_map_val 0#32)

/-- One channel more is active as the last one. -/
theorem activeChannels_succ (n : Channel) :
    activeChannels (BitVec.ofNat 32 (n.val + 1)) = activeChannels (BitVec.ofNat 32 n.val) ++ [n] := by
  have hn := n.isLt
  have h1 : min (BitVec.ofNat 32 (n.val + 1)).toNat 20 = n.val + 1 := by rw [BitVec.toNat_ofNat]; omega
  have h0 : min (BitVec.ofNat 32 n.val).toNat 20 = n.val := by rw [BitVec.toNat_ofNat]; omega
  refine List.map_injective_iff.mpr Fin.val_injective ?_
  rw [List.map_append, activeChannels_map_val, activeChannels_map_val, h1, h0, List.range_succ]; rfl

/-! ### The sums -/

theorem spectralSumOf_zero (s : State) : spectralSumOf 0#32 s = List.replicate 1024 0x0000#16 := by
  rw [spectralSumOf, activeChannels_zero, List.foldl_nil]

theorem spectralSumOf_succ (n : Channel) (s : State) :
    spectralSumOf (BitVec.ofNat 32 (n.val + 1)) s =
      List.zipWith add16 (spectralSumOf (BitVec.ofNat 32 n.val) s) (spectrumOf n s) := by
  rw [spectralSumOf, activeChannels_succ, List.foldl_concat]; rfl

/-- Adding a list of words to +0 adds each word to +0. -/
theorem zipWith_add16_zeros : ∀ l : List F16,
    List.zipWith add16 (List.replicate l.length zero16) l = l.map (add16 zero16)
  | [] => rfl
  | x :: l => congrArg (add16 zero16 x :: ·) (zipWith_add16_zeros l)

theorem spectrumOf_length (c : Channel) (s : State) : (spectrumOf c s).length = 1024 := refTransform_length _

theorem spectralSumOf_one (s : State) :
    spectralSumOf 1#32 s = (spectrumOf 0 s).map fun x =>
      if isNaN16 x = true then qnan16 else if x = 0x8000#16 then 0x0000#16 else x :=
  calc spectralSumOf 1#32 s = List.zipWith add16 (List.replicate 1024 zero16) (spectrumOf 0 s) := spectralSumOf_succ 0 s
    _ = (spectrumOf 0 s).map (add16 zero16) := by rw [← spectrumOf_length 0 s, zipWith_add16_zeros]
    _ = _ := List.map_congr_left fun x _ => zero16_add16 x

/-- Settles O51: one channel more is one more sum at the end of the fold, and the fold starts from +0. -/
theorem spectralSumFoldsChannelsAscending : Obligations.SpectralSumFoldsChannelsAscending :=
  ⟨activeChannels_map_val, fun s => ⟨fun nc => spectralSum_acc nc s, fun n => spectralSumOf_succ n s,
    spectralSumOf_zero s, spectralSumOf_one s⟩⟩

end Sys2Proof.Machine
end

section
/-! PROOFS. Magnitude, peak search and frequency (45_detect.md R250, R251, R253, R301). -/

namespace Sys2Proof.Machine

/-! ### Magnitudes (R250) -/

/-- The magnitudes are those of the packed pairs, in order. -/
theorem magnitudes_eq_map_packPairs : ∀ acc : List F16,
    magnitudes acc = (packPairs acc).map fun p => magSquared p.1 p.2
  | [] => rfl
  | [_] => rfl
  | re :: im :: acc => congrArg (magSquared re im :: ·) (magnitudes_eq_map_packPairs acc)

theorem magnitudes_getElem? {acc : List F16} {k : Nat} (h : 2 * k + 1 < acc.length) :
    (magnitudes acc)[k]? = some (magSquared (acc.getD (2 * k) qnan16) (acc.getD (2 * k + 1) qnan16)) := by
  rw [magnitudes_eq_map_packPairs, List.getElem?_map, packPairs_getElem? acc k h]
  simp only [List.getD_eq_getElem _ _ h, List.getD_eq_getElem _ _ (Nat.lt_of_succ_lt h), Option.map_some]

/-- Settles O53: magnitude k is that of the packed pair k, and a sum of two squares has the sign bit 0. -/
theorem magnitudeIsNeverNegative : Obligations.MagnitudeIsNeverNegative := by
  refine ⟨fun acc hlen => ⟨magnitudes_length 512 acc hlen, fun k hk => ?_⟩, sign16_magSquared⟩
  rw [List.getD_eq_getElem?_getD, magnitudes_getElem? (by omega), magSquared, Option.getD_some]

/-! ### The peak search (R251) -/

theorem gt16_iff (a b : F16) :
    gt16 a b = true ↔ isNaN16 b = false ∧ isNaN16 a = false ∧ order24 b < order24 a :=
  (comparisonIsTheOrderOfValues b a).1

/-- What is not greater than the old best is smaller than a greater new one, unless it is a NaN. -/
theorem isNaN16_or_gt16_of_gt16 {v best w : F16} (hgt : gt16 v best = true) (hw : gt16 w best = false) :
    isNaN16 w = true ∨ gt16 v w = true := by
  cases hn : isNaN16 w with
  | true => exact .inl rfl
  | false =>
    obtain ⟨hbest, hv, hlt⟩ := (gt16_iff v best).mp hgt
    have hle : ¬ order24 best < order24 w := fun h =>
      Bool.false_ne_true (hw.symm.trans ((gt16_iff w best).mpr ⟨hbest, hn, h⟩))
    exact .inr ((gt16_iff v w).mpr ⟨hn, hv, by omega⟩)

theorem gt16_asymm {v w : F16} (h : gt16 v w = true) : gt16 w v = false := by
  obtain ⟨-, -, hlt⟩ := (gt16_iff v w).mp h
  refine Bool.eq_false_iff.mpr fun h' => ?_
  obtain ⟨-, -, hlt'⟩ := (gt16_iff w v).mp h'
  exact lt_asymm hlt hlt'

theorem gt16_self (v : F16) : gt16 v v = false :=
  Bool.eq_false_iff.mpr fun h => Bool.false_ne_true ((gt16_asymm h).symm.trans h)

theorem gt16_of_isNaN16 {v w : F16} (h : isNaN16 v = true ∨ isNaN16 w = true) : gt16 v w = false := by
  rcases h with h | h <;> simp [gt16, lt16, h]

/-- The bin p.1 of the value p.2 is the first maximum of the bins: no bin is greater, and every earlier one is smaller
or a NaN. -/
def IsFirstMaximum (bins : List F16) (p : Nat × F16) : Prop :=
  bins[p.1]? = some p.2 ∧ isNaN16 p.2 = false ∧ (∀ v ∈ bins, gt16 v p.2 = false) ∧
    (∀ j v, j < p.1 → bins[j]? = some v → isNaN16 v = true ∨ gt16 p.2 v = true)

section Scan
variable {seen : List F16} {best : Nat} {bestv v : F16} (h : IsFirstMaximum seen (best, bestv))
include h

/-- A next bin that is not greater leaves the best one. -/
theorem IsFirstMaximum.concat_of_not_gt (hgt : gt16 v bestv = false) : IsFirstMaximum (seen ++ [v]) (best, bestv) := by
  obtain ⟨hat, hnan, hmax, hfirst⟩ := h
  have hlt : best < seen.length := (List.getElem?_eq_some_iff.mp hat).1
  refine ⟨(List.getElem?_append_left hlt).trans hat, hnan, fun w hw => ?_, fun j w hj hw => ?_⟩
  · rcases List.mem_append.mp hw with hw | hw
    · exact hmax w hw
    · rw [List.mem_singleton.mp hw]; exact hgt
  · exact hfirst j w hj ((List.getElem?_append_left (hj.trans hlt)).symm.trans hw)

/-- A next bin that is greater is the new best one. -/
theorem IsFirstMaximum.concat_of_gt (hgt : gt16 v bestv = true) : IsFirstMaximum (seen ++ [v]) (seen.length, v) := by
  obtain ⟨-, -, hmax, -⟩ := h
  have hbelow : ∀ w ∈ seen, isNaN16 w = true ∨ gt16 v w = true := fun w hw => isNaN16_or_gt16_of_gt16 hgt (hmax w hw)
  obtain ⟨-, hnan, -⟩ := (gt16_iff v bestv).mp hgt
  refine ⟨List.getElem?_concat_length, hnan, fun w hw => ?_, fun j w hj hw => ?_⟩
  · rcases List.mem_append.mp hw with hw | hw
    · rcases hbelow w hw with hn | hlt
      · exact gt16_of_isNaN16 (.inl hn)
      · exact gt16_asymm hlt
    · rw [List.mem_singleton.mp hw]; exact gt16_self v
  · rw [List.getElem?_append_left hj] at hw
    exact hbelow w (List.mem_of_getElem? hw)

end Scan

/-- From the first maximum of the bins seen the scan finds that of all bins. -/
theorem peakFrom_isFirstMaximum : ∀ (mag seen : List F16) (best : Nat) (bestv : F16),
    IsFirstMaximum seen (best, bestv) → IsFirstMaximum (seen ++ mag) (peakFrom seen.length best bestv mag)
  | [], seen, best, bestv, h => by rw [List.append_nil]; exact h
  | v :: mag, seen, best, bestv, h => by
    have hnext : seen.length + 1 = (seen ++ [v]).length := by rw [List.length_append, List.length_singleton]
    rw [peakFrom, List.append_cons, hnext]
    cases hgt : gt16 v bestv with
    | true => exact peakFrom_isFirstMaximum mag _ _ _ (h.concat_of_gt hgt)
    | false => exact peakFrom_isFirstMaximum mag _ _ _ (h.concat_of_not_gt hgt)

theorem isFirstMaximum_singleton {v : F16} (h : isNaN16 v = false) : IsFirstMaximum [v] (0, v) := by
  refine ⟨rfl, h, fun w hw => ?_, fun j w hj _ => absurd hj j.not_lt_zero⟩
  rw [List.mem_singleton.mp hw]; exact gt16_self v

/-- A scan whose bins are none greater than the best keeps it. -/
theorem peakFrom_of_not_gt {best : Nat} {bestv : F16} : ∀ (mag : List F16) (i : Nat),
    (∀ v ∈ mag, gt16 v bestv = false) → peakFrom i best bestv mag = (best, bestv)
  | [], _, _ => rfl
  | v :: mag, i, h => by
    obtain ⟨hv, hmag⟩ := List.forall_mem_cons.mp h
    rw [peakFrom, if_neg (Bool.eq_false_iff.mp hv), peakFrom_of_not_gt mag (i + 1) hmag]

/-- Settles O54: nothing is greater than a NaN, and from bin 0 on the scan keeps the first maximum of the bins seen. -/
theorem peakIsTheFirstMaximum : Obligations.PeakIsTheFirstMaximum := fun m0 mag =>
  ⟨fun hnan => peakFrom_of_not_gt mag 1 fun _ _ => gt16_of_isNaN16 (.inr hnan),
    fun hnan => peakFrom_isFirstMaximum mag [m0] 0 m0 (isFirstMaximum_singleton hnan)⟩

/-! ### The frequency (R253, R301) -/

/-- A finite value over an infinity is a zero. -/
theorem div16_of_isInf16 {a b : F16} (ha : isFinite16 a = true) (hb : isInf16 b = true) :
    div16 a b = signedZero16 (sign16 a ^^ sign16 b) := by
  have hbn : isNaN16 b = false := by rw [← signedInf16_of_isInf16 hb]; exact isNaN16_signedInf16 _
  simp [div16, isNaN16_of_isFinite16 ha, isInf16_of_isFinite16 ha, hb, hbn, isZero16_of_isInf16 hb]

/-- +0 over a value above +0 is +0. -/
theorem zero16_div16 {b : F16} (hb : nonNegative16 b = true) (hbz : isZero16 b = false) : div16 zero16 b = zero16 := by
  obtain ⟨hbs, hbn⟩ := (nonNegative16_iff b).mp hb
  cases hi : isInf16 b with
  | true => rw [div16_of_isInf16 (by decide) hi, hbs, sign16_zero16]; rfl
  | false =>
    simp [div16, hbn, hi, hbz, hbs, sign16_zero16, val24_zero16, show isNaN16 zero16 = false by decide,
      show isInf16 zero16 = false by decide, signedZero16_false]

theorem isFinite16_cvt16 {n : Nat} (hn : n < 512) : isFinite16 (cvt16 n) = true :=
  isFinite16_of_isNaN16_isInf16 (isNaN16_rnd16 _ _ _) (isInf16_cvt16 hn)

theorem frequency_zero {si : F16} (hsi : gt16 si zero16 = true) : frequency 0 si = zero16 := by
  obtain ⟨hm, hmz⟩ := mul16_n16_interval hsi
  have hbin : cvt16 0 = zero16 := by decide
  rw [frequency, hbin, zero16_div16 hm hmz]

/-- 1024 times 64 or more overflows. -/
theorem isInf16_mul16_n16 {si : F16} (hsi : gt16 si zero16 = true) (h : lt16 si 0x5400#16 = false) :
    isInf16 (mul16 n16 si) = true := by
  obtain ⟨hnonneg, hcases⟩ := gt16_zero_cases hsi
  obtain ⟨-, hn⟩ := (nonNegative16_iff si).mp hnonneg
  rcases hcases with hi | ⟨hi, -⟩
  · simp [mul16, hn, hi, show isNaN16 n16 = false by decide, show isZero16 n16 = false by decide,
      show isInf16 n16 = false by decide]
  · have hlarge : 2 ^ 30 ≤ val24 si := by
      rw [lt16_finite hn (by decide) hi (by decide), show val24 0x5400#16 = 2 ^ 30 by decide] at h
      exact not_lt.mp (of_decide_eq_false h)
    rw [mul16_finite (by decide) (isFinite16_of_isNaN16_isInf16 hn hi), isInf16_rnd16_iff _ _ (by decide),
      show val24 n16 = 2 ^ 34 by decide]
    omega

theorem frequency_of_large_interval {bin : Nat} {si : F16} (hbin : bin < 512) (hsi : gt16 si zero16 = true)
    (h : lt16 si 0x5400#16 = false) : frequency bin si = zero16 := by
  obtain ⟨hms, -⟩ := (nonNegative16_iff _).mp (mul16_n16_interval hsi).1
  obtain ⟨hcs, -⟩ := (nonNegative16_iff _).mp (cvt16_nonNegative bin)
  rw [frequency, div16_of_isInf16 (isFinite16_cvt16 hbin) (isInf16_mul16_n16 hsi h), hms, hcs]
  exact signedZero16_false

/-- Settles O55: the divisor 1024 * si is above +0, and from si = 64 on it is +infinity. -/
theorem frequencyIsNeverNegative : Obligations.FrequencyIsNeverNegative := fun _ _ hsi hbin =>
  ⟨frequency_nonNegative hbin hsi, frequency_zero hsi, frequency_of_large_interval hbin hsi⟩

end Sys2Proof.Machine
end

section
/-! PROOFS. Silence (45_detect.md R257): every operation of a pass sends zeros of either sign to zeros of either sign, and
the magnitude of two zeros is +0. -/

namespace Sys2Proof.Machine

/-! ### The primitives on zeros (40_fp16.md R104 to R107) -/

/-- A zero is the packed one of its sign. -/
theorem eq_signedZero16_of_isZero16 {x : F16} (h : isZero16 x = true) : x = signedZero16 (sign16 x) := by
  refine eq_of_sign16_mag24 (sign16_signedZero16 _).symm ?_
  rw [(isZero16_iff_mag24 x).mp h, (isZero16_iff_mag24 _).mp (isZero16_signedZero16 _)]

theorem isZero16_zero16 : isZero16 zero16 = true := by decide

section Primitives
variable {a b : F16}

theorem isZero16_neg16 (ha : isZero16 a = true) : isZero16 (neg16 a) = true := by
  rw [eq_signedZero16_of_isZero16 ha, neg16_signedZero16]; exact isZero16_signedZero16 _

theorem isZero16_add16 (ha : isZero16 a = true) (hb : isZero16 b = true) : isZero16 (add16 a b) = true := by
  rw [eq_signedZero16_of_isZero16 ha, eq_signedZero16_of_isZero16 hb, add16_signedZero16_signedZero16]
  exact isZero16_signedZero16 _

theorem isZero16_sub16 (ha : isZero16 a = true) (hb : isZero16 b = true) : isZero16 (sub16 a b) = true :=
  isZero16_add16 ha (isZero16_neg16 hb)

theorem isZero16_mul16 (ha : isFinite16 a = true) (hb : isZero16 b = true) : isZero16 (mul16 a b) = true := by
  rw [eq_signedZero16_of_isZero16 hb, mul16_signedZero16 ha]; exact isZero16_signedZero16 _

theorem isZero16_mul16_half (ha : isZero16 a = true) : isZero16 (mul16 a half16) = true := by
  rw [mul16_comm]; exact isZero16_mul16 (by decide) ha

/-- The square of a zero is +0. -/
theorem mul16_self_of_isZero16 (ha : isZero16 a = true) : mul16 a a = zero16 := by
  rw [eq_signedZero16_of_isZero16 ha, mul16_signedZero16 (isFinite16_signedZero16 _), sign16_signedZero16,
    Bool.xor_self, signedZero16_false]

theorem magSquared_of_isZero16 (ha : isZero16 a = true) (hb : isZero16 b = true) : magSquared a b = zero16 := by
  rw [magSquared, mul16_self_of_isZero16 ha, mul16_self_of_isZero16 hb]; decide

end Primitives

/-! ### Lists of zeros -/

/-- Every word is a zero of either sign. -/
def AllZero (l : List F16) : Prop := ∀ x ∈ l, isZero16 x = true

/-- Both parts are zeros of either sign. -/
def ZeroPair (p : Complex16) : Prop := isZero16 p.1 = true ∧ isZero16 p.2 = true

/-- Both parts of every value are zeros of either sign. -/
def AllZeroPairs (z : List Complex16) : Prop := ∀ p ∈ z, ZeroPair p

/-- What f makes of elements with P and Q has R, throughout a zipWith. -/
theorem forall_mem_zipWith {α β γ : Type} {P : α → Prop} {Q : β → Prop} {R : γ → Prop} {f : α → β → γ}
    (hf : ∀ a b, P a → Q b → R (f a b)) : ∀ {l : List α} {m : List β}, (∀ a ∈ l, P a) → (∀ b ∈ m, Q b) →
      ∀ c ∈ List.zipWith f l m, R c
  | [], _, _, _, _, hc => nomatch hc
  | _ :: _, [], _, _, _, hc => nomatch hc
  | a :: l, b :: m, hl, hm, c, hc => by
    obtain ⟨ha, hl⟩ := List.forall_mem_cons.mp hl
    obtain ⟨hb, hm⟩ := List.forall_mem_cons.mp hm
    rcases List.mem_cons.mp hc with rfl | hc
    · exact hf a b ha hb
    · exact forall_mem_zipWith hf hl hm c hc

theorem allZero_replicate (n : Nat) : AllZero (List.replicate n zero16) := fun x hx => by
  rw [List.eq_of_mem_replicate hx]; exact isZero16_zero16

theorem AllZero.append {l m : List F16} (hl : AllZero l) (hm : AllZero m) : AllZero (l ++ m) :=
  List.forall_mem_append.mpr ⟨hl, hm⟩

/-- A value read from zeros is a zero, past their end too. -/
theorem AllZeroPairs.getD {z : List Complex16} (h : AllZeroPairs z) (k : Nat) : ZeroPair (z.getD k (zero16, zero16)) := by
  rw [List.getD_eq_getElem?_getD]
  cases hk : z[k]? with
  | none => exact ⟨isZero16_zero16, isZero16_zero16⟩
  | some p => exact h p (List.mem_of_getElem? hk)

/-! ### Taper, packing and bit reversal (44_window_rfft.md R211 to R215) -/

theorem AllZero.taper {snap : List F16} (h : AllZero snap) : AllZero (taper snap) := by
  have hhann : ∀ w ∈ (List.range 250).map hann, isFinite16 w = true := fun w hw => by
    obtain ⟨n, hn, rfl⟩ := List.mem_map.mp hw
    exact (hann_finite_nonneg n (List.mem_range.mp hn)).1
  have hmul : ∀ x w, isZero16 x = true → isFinite16 w = true → isZero16 (mul16 x w) = true := fun x w hx hw => by
    rw [mul16_comm]; exact isZero16_mul16 hw hx
  exact AllZero.append (forall_mem_zipWith hmul h hhann) (allZero_replicate 774)

theorem AllZero.packPairs : ∀ {x : List F16}, AllZero x → AllZeroPairs (packPairs x)
  | [], _, _, hp => nomatch hp
  | [_], _, _, hp => nomatch hp
  | re :: im :: x, h, p, hp => by
    obtain ⟨hre, h⟩ := List.forall_mem_cons.mp h
    obtain ⟨him, hx⟩ := List.forall_mem_cons.mp h
    rcases List.mem_cons.mp hp with rfl | hp
    · exact ⟨hre, him⟩
    · exact AllZero.packPairs hx p hp

theorem AllZeroPairs.bitReverse {z : List Complex16} (h : AllZeroPairs z) : AllZeroPairs (bitReverse z) := fun p hp => by
  obtain ⟨n, -, rfl⟩ := List.mem_map.mp hp
  exact h.getD _

/-! ### The stages (R216) -/

theorem zeroPair_twiddle {tw q : Complex16} (htw : finitePair tw) (hq : ZeroPair q) : ZeroPair (twiddle tw q) := by
  obtain ⟨hc, hs⟩ := htw
  obtain ⟨hre, him⟩ := hq
  exact ⟨isZero16_add16 (isZero16_mul16 hc hre) (isZero16_mul16 hs him),
    isZero16_sub16 (isZero16_mul16 hc him) (isZero16_mul16 hs hre)⟩

theorem zeroPair_butterflyAdd {p t : Complex16} (hp : ZeroPair p) (ht : ZeroPair t) : ZeroPair (butterflyAdd p t) :=
  ⟨isZero16_add16 hp.1 ht.1, isZero16_add16 hp.2 ht.2⟩

theorem zeroPair_butterflySub {p t : Complex16} (hp : ZeroPair p) (ht : ZeroPair t) : ZeroPair (butterflySub p t) :=
  ⟨isZero16_sub16 hp.1 ht.1, isZero16_sub16 hp.2 ht.2⟩

section Stage
variable {tws : List Complex16} (htws : ∀ tw ∈ tws, finitePair tw)
include htws

theorem allZeroPairs_blockButterflies {ps qs : List Complex16} (hps : AllZeroPairs ps) (hqs : AllZeroPairs qs) :
    AllZeroPairs (blockButterflies tws ps qs) := by
  have hts : AllZeroPairs (List.zipWith twiddle tws qs) := forall_mem_zipWith (fun _ _ => zeroPair_twiddle) htws hqs
  exact List.forall_mem_append.mpr ⟨forall_mem_zipWith (fun _ _ => zeroPair_butterflyAdd) hps hts,
    forall_mem_zipWith (fun _ _ => zeroPair_butterflySub) hps hts⟩

theorem allZeroPairs_stageBlocks (h : Nat) : ∀ (blocks : Nat) {a : List Complex16}, AllZeroPairs a →
    AllZeroPairs (stageBlocks h tws blocks a)
  | 0, _, _, _, hp => nomatch hp
  | blocks + 1, a, ha, p, hp => by
    have hdrop : ∀ n, AllZeroPairs (a.drop n) := fun _ p hp => ha p (List.mem_of_mem_drop hp)
    rcases List.mem_append.mp hp with hp | hp
    · exact allZeroPairs_blockButterflies htws (fun p hp => ha p (List.mem_of_mem_take hp))
        (fun p hp => hdrop h p (List.mem_of_mem_take hp)) p hp
    · exact allZeroPairs_stageBlocks h blocks (hdrop (2 * h)) p hp

end Stage

theorem AllZeroPairs.stages {a : List Complex16} (h : AllZeroPairs a) : AllZeroPairs (stages a) :=
  List.foldlRecOn _ _ h fun _ ht s hs =>
    have hs : 1 ≤ s ∧ s < 1 + 9 := List.mem_range'_1.mp hs
    allZeroPairs_stageBlocks (finitePair_stageTwiddles hs.1 (by omega)) _ _ ht

/-! ### The split and the sum (R217, R218, R222) -/

theorem allZero_splitBin {tw a u : Complex16} (htw : finitePair tw) (ha : ZeroPair a) (hu : ZeroPair u) :
    AllZero (splitBin tw a u) := by
  obtain ⟨hc, hs⟩ := htw
  obtain ⟨hare, haim⟩ := ha
  obtain ⟨hure, huim⟩ := hu
  have her := isZero16_mul16_half (isZero16_add16 hare hure)
  have hei := isZero16_mul16_half (isZero16_sub16 haim huim)
  have hor := isZero16_mul16_half (isZero16_add16 haim huim)
  have hoi := isZero16_neg16 (isZero16_mul16_half (isZero16_sub16 hare hure))
  have hre := isZero16_add16 her (isZero16_add16 (isZero16_mul16 hc hor) (isZero16_mul16 hs hoi))
  have him := isZero16_add16 hei (isZero16_sub16 (isZero16_mul16 hc hoi) (isZero16_mul16 hs hor))
  exact List.forall_mem_cons.mpr ⟨hre, List.forall_mem_singleton.mpr him⟩

theorem AllZeroPairs.split {z : List Complex16} (h : AllZeroPairs z) : AllZero (split z) := by
  obtain ⟨hre, him⟩ := h.getD 0
  refine AllZero.append (List.forall_mem_cons.mpr
    ⟨isZero16_add16 hre him, List.forall_mem_singleton.mpr (isZero16_sub16 hre him)⟩) fun x hx => ?_
  obtain ⟨k, hk, hx⟩ := List.mem_flatMap.mp hx
  have hk : 1 ≤ k ∧ k < 1 + 511 := List.mem_range'_1.mp hk
  have htw : finitePair (cos1024 k, sin1024 k) :=
    ⟨(cos1024_finite (by omega)).1, (sin1024_finite_nonneg (by omega)).1⟩
  exact allZero_splitBin htw (h.getD k) (h.getD (512 - k)) x hx

/-- REF answers zeros to zeros. -/
theorem AllZero.refTransform {td : List F16} (h : AllZero td) : AllZero (refTransform td) :=
  h.packPairs.bitReverse.stages.split

theorem AllZero.zipWith_add16 {acc l : List F16} (hacc : AllZero acc) (hl : AllZero l) :
    AllZero (List.zipWith add16 acc l) := by
  have hadd : ∀ a b, isZero16 a = true → isZero16 b = true → isZero16 (add16 a b) = true := fun _ _ ha hb =>
    isZero16_add16 ha hb
  exact forall_mem_zipWith hadd hacc hl

theorem allZero_spectralSumOf {nc : Word} {s : State}
    (h : ∀ c : Channel, c.val < nc.toNat → ∀ i : Slot, isZero16 (s.slot c i) = true) : AllZero (spectralSumOf nc s) := by
  have hspectrum : ∀ c ∈ activeChannels nc, AllZero (spectrumOf c s) := fun c hc => by
    have hsnap : AllZero (rbSnapshot c s) := fun x hx => by
      obtain ⟨j, -, rfl⟩ := List.mem_map.mp hx
      exact h c ((mem_activeChannels nc c).mp hc) _
    exact hsnap.taper.refTransform
  rw [spectralSumOf]
  exact List.foldlRecOn (motive := AllZero) _ _ (allZero_replicate 1024) fun _ hacc c hc =>
    hacc.zipWith_add16 (hspectrum c hc)

/-! ### The detection (R250 to R254) -/

theorem AllZero.magnitudes {acc : List F16} (h : AllZero acc) {n : Nat} (hlen : acc.length = 2 * n) :
    magnitudes acc = List.replicate n zero16 := by
  refine List.eq_replicate_iff.mpr ⟨magnitudes_length n acc hlen, fun m hm => ?_⟩
  rw [magnitudes_eq_map_packPairs] at hm
  obtain ⟨p, hp, rfl⟩ := List.mem_map.mp hm
  obtain ⟨hre, him⟩ := h.packPairs p hp
  exact magSquared_of_isZero16 hre him

theorem peak_replicate (v : F16) (n : Nat) : peak (List.replicate (n + 1) v) = (0, v) :=
  peakFrom_of_not_gt _ 1 fun w hw => by rw [List.eq_of_mem_replicate hw]; exact gt16_self v

/-- What a STEP that is accepted and opens the gate reports: the peak of the magnitudes of the sum. -/
theorem exec_step_of_gateOpens {s : State} (hframe : frameAccepted s = true) (hgate : gateOpens s = true) :
    ∃ t, exec .step s = .next t ∧ t.ready = true ∧
      let best := peak (magnitudes (spectralSumOf s.numChannels (ingest s.numChannels s)))
      t.peakBin = BitVec.ofNat 9 best.1 ∧ t.peakMag2 = best.2 ∧ t.freqOut = frequency best.1 s.sampleInterval := by
  obtain ⟨hnc, hsi⟩ := (frameAccepted_iff s).mp hframe
  obtain ⟨-, -, -, hopen⟩ := stepFollowsItsPseudocode s
  obtain ⟨t, hexec, ht⟩ := hopen hnc hsi (by simpa [gateOpens] using hgate)
  exact ⟨t, hexec, congrArg State.ready ht, congrArg State.peakBin ht, congrArg State.peakMag2 ht,
    congrArg State.freqOut ht⟩

/-- Settles O56: over rings of zeros the sum is zeros, so every magnitude is +0 and the first bin is the peak. -/
theorem silenceReportsZeroHertz : Obligations.SilenceReportsZeroHertz := by
  intro s hframe hgate hzero
  obtain ⟨t, hexec, hready, hbin, hmag, hfreq⟩ := exec_step_of_gateOpens hframe hgate
  have hpeak : peak (magnitudes (spectralSumOf s.numChannels (ingest s.numChannels s))) = (0, zero16) := by
    rw [(allZero_spectralSumOf hzero).magnitudes (n := 512) (spectralSumOf_length _ _)]
    exact peak_replicate zero16 511
  obtain ⟨-, hsi⟩ := (frameAccepted_iff s).mp hframe
  rw [hpeak] at hbin hmag hfreq
  exact ⟨t, hexec, hready, hbin, hmag, hfreq.trans (frequency_zero hsi)⟩

end Sys2Proof.Machine
end

section
/-! PROOFS. The errors of the bus (60_exceptions.md): when an access gets BUS_ERROR (R272), what a refused access leaves
unchanged (R273), and that no input stops the block (R277). -/

namespace Sys2Proof.Machine

/-- Settles O10, from the equations of a step. -/
theorem everyStepAnswersANextState : Obligations.EveryStepAnswersANextState :=
  ⟨step_answers_next, fun _ => step_of_empty⟩

/-! ### The queue and the responses under the commands -/

/-- The two states hold the same two lists of the model's own, the inputs still to come and the responses given. -/
def sameQueues (s t : State) : Prop := t.pending = s.pending ∧ t.responses = s.responses

@[simp] theorem ingest_pending (nc : Word) (s : State) : (ingest nc s).pending = s.pending :=
  (congrArg State.pending (ingest_frame nc s)).trans rfl

@[simp] theorem computationPass_pending (nc : Word) (si : F16) (s : State) :
    (computationPass nc si s).pending = s.pending :=
  (congrArg State.pending (computationPass_frame nc si s)).trans rfl

theorem initEffect_sameQueues (s : State) : sameQueues s (initEffect s) := by
  rw [initEffect, rbResetAll_frame]
  exact ⟨rfl, rfl⟩

theorem stepEffect_pending (s : State) : (stepEffect s).pending = s.pending := by
  rcases stepEffect_cases s with ⟨code, -, h⟩ | ⟨-, -, h⟩ | ⟨-, -, h⟩
  · rw [h, State.reject_pending]
  · rw [h, State.accept_pending, accumulateElapsed, State.setElapsed_pending, ingest_pending]
  · rw [h, State.accept_pending, computationPass_pending, subtractInterval, State.setElapsed_pending,
      accumulateElapsed, State.setElapsed_pending, ingest_pending]

/-! ### Writes (R160, R165) -/

/-- Every command word is answered OK, a reserved one too (R271). -/
theorem exec_decodeCommand_ok (w : Word) (s : State) :
    ∃ u, exec (decodeCommand w) s = .next (u.respond .ok) ∧ sameQueues s u := by
  rcases decodeCommand_cases w with rfl | rfl | rfl | hreserved
  · exact ⟨s, exec_nop s, rfl, rfl⟩
  · exact ⟨_, exec_init s, initEffect_sameQueues (s.setControl .compute)⟩
  · exact ⟨_, exec_step s, stepEffect_pending s, stepEffect_responses s⟩
  · rw [decodeCommand_of_reserved hreserved]
    exact ⟨_, exec_wrCmd_of_reserved hreserved s, rfl, rfl⟩

theorem exec_writeInstr_of_writable {r : Register} (h : readOnlyRegister r = false) (w : Word) (s : State) :
    ∃ u, exec (r.writeInstr w) s = .next (u.respond .ok) ∧ sameQueues s u := by
  cases r with
  | cmd => exact exec_decodeCommand_ok w s
  | numChannels => exact ⟨_, exec_wrNumChannels w s, rfl, rfl⟩
  | sampleInterval => exact ⟨_, exec_wrSampleInterval w s, rfl, rfl⟩
  | chSample c => exact ⟨_, exec_wrChSample c w s, rfl, rfl⟩
  | _ => cases h

/-- What a write gets: OK from a writable register, and BUS_ERROR from a read-only one and where it reaches none. -/
def writeResponse : Option Register → Response
  | some r => if readOnlyRegister r then .busError else .ok
  | none => .busError

/-- A write answers its response, and a refused one changes nothing else. -/
theorem exec_decodeWrite (off : Offset) (w : Word) (s : State) :
    ∃ u, exec (decodeWrite off w) s = .next (u.respond (writeResponse (registerAt off))) ∧ sameQueues s u ∧
      (writeResponse (registerAt off) = .busError → u = s) := by
  cases hreg : registerAt off with
  | none =>
    rw [decodeWrite_of_no_register hreg]
    exact ⟨s, exec_wrRoOrReserved off w s, ⟨rfl, rfl⟩, fun _ => rfl⟩
  | some r =>
    obtain rfl := registerAt_eq_some_iff.mp hreg
    rw [decodeWrite_offset, writeResponse]
    cases hreadOnly : readOnlyRegister r with
    | true =>
      rw [writeInstr_of_readOnly hreadOnly]
      exact ⟨s, exec_wrRoOrReserved _ w s, ⟨rfl, rfl⟩, fun _ => rfl⟩
    | false =>
      obtain ⟨u, hexec, hqueues⟩ := exec_writeInstr_of_writable hreadOnly w s
      exact ⟨u, hexec, hqueues, nofun⟩

/-! ### The response to an access (R272, R273) -/

/-- What the host receives for an access serviced in this state. -/
def accessResponse (a : Access) (s : State) : Response :=
  match a.dir with
  | .read => readResponse (accessedRegister a) s
  | .write => writeResponse (accessedRegister a)

theorem accessResponse_of_read {a : Access} (h : a.dir = .read) (s : State) :
    accessResponse a s = readResponse (accessedRegister a) s := by
  rw [accessResponse, h]

theorem accessResponse_of_write {a : Access} (h : a.dir = .write) (s : State) :
    accessResponse a s = writeResponse (accessedRegister a) := by
  rw [accessResponse, h]

/-- A step in IDLE takes its access from the queue and answers its one response; a refused access changes nothing
else. -/
theorem step_of_access {s : State} {a : Access} {rest : List Input} (hp : s.pending = .access a :: rest)
    (hc : s.control = .idle) :
    ∃ u, step s = .next (u.respond (accessResponse a s)) ∧ sameQueues (s.setPending rest) u ∧
      (accessResponse a s = .busError → u = s.setPending rest) := by
  cases hdir : a.dir with
  | read =>
    rw [accessResponse_of_read hdir]
    exact ⟨_, step_of_read hp hc hdir, ⟨rfl, rfl⟩, fun _ => rfl⟩
  | write =>
    rw [accessResponse_of_write hdir]
    by_cases hsize : a.size = 4
    · rw [step_of_decoded hp hc (decode_write hsize hdir), accessedRegister_of_size hsize]
      exact exec_decodeWrite a.off a.data (s.setPending rest)
    · rw [accessedRegister_of_size_ne hsize]
      exact ⟨_, step_of_size_ne hp hc hsize, ⟨rfl, rfl⟩, fun _ => rfl⟩

/-! ### When the response is BUS_ERROR (R272) -/

theorem readResponse_eq_busError_iff (reached : Option Register) (s : State) :
    readResponse reached s = .busError ↔ reached = none := by
  cases reached <;> simp [readResponse]

theorem writeResponse_eq_busError_iff (reached : Option Register) :
    writeResponse reached = .busError ↔ reached = none ∨ ∃ r, readOnlyRegister r = true ∧ reached = some r := by
  cases reached <;> simp [writeResponse]

/-- The conditions (a) to (c): the width, the alignment and the reserved offsets. -/
theorem accessedRegister_eq_none_iff (a : Access) :
    accessedRegister a = none ↔ a.size ≠ 4 ∨ a.off.toNat % 4 ≠ 0 ∨ reservedOffset a.off = true := by
  rw [← registerAt_eq_none_iff]
  by_cases hsize : a.size = 4
  · simp [accessedRegister_of_size hsize, hsize]
  · simp [accessedRegister_of_size_ne hsize, hsize]

theorem accessedRegister_eq_some_iff (a : Access) (r : Register) :
    accessedRegister a = some r ↔ a.size = 4 ∧ r.offset = a.off := by
  rw [← registerAt_eq_some_iff]
  by_cases hsize : a.size = 4
  · simp [accessedRegister_of_size hsize, hsize]
  · simp [accessedRegister_of_size_ne hsize, hsize]

/-- An access is refused where it reaches no register, and a write also where it reaches a read-only one. -/
theorem accessResponse_eq_busError_iff (a : Access) (s : State) :
    accessResponse a s = .busError ↔ accessedRegister a = none ∨
      (a.dir = .write ∧ ∃ r, readOnlyRegister r = true ∧ accessedRegister a = some r) := by
  cases hdir : a.dir with
  | read => simp [accessResponse_of_read hdir, readResponse_eq_busError_iff]
  | write => simp [accessResponse_of_write hdir, writeResponse_eq_busError_iff]

/-- The four conditions of R272. A write at the offset of a read-only register that is not a whole word reaches no
register and is refused by condition (a). -/
theorem accessResponse_eq_busError_iff_stated (a : Access) (s : State) :
    accessResponse a s = .busError ↔ a.size ≠ 4 ∨ a.off.toNat % 4 ≠ 0 ∨ reservedOffset a.off = true ∨
      (a.dir = .write ∧ ∃ r, readOnlyRegister r = true ∧ r.offset = a.off) := by
  rw [accessResponse_eq_busError_iff, accessedRegister_eq_none_iff]
  simp only [accessedRegister_eq_some_iff]
  by_cases hsize : a.size = 4
  · simp only [hsize, true_and, or_assoc]
  · simp only [hsize, ne_eq, not_false_eq_true, true_or]

theorem accessResponse_read {a : Access} (h : a.dir = .read) (s : State) :
    accessResponse a s = .busError ∨ ∃ w, accessResponse a s = .data w := by
  rw [accessResponse_of_read h]
  cases accessedRegister a with
  | none => exact .inl rfl
  | some r => exact .inr ⟨_, rfl⟩

theorem accessResponse_write {a : Access} (h : a.dir = .write) (s : State) :
    accessResponse a s = .busError ∨ accessResponse a s = .ok := by
  rw [accessResponse_of_write h]
  cases accessedRegister a with
  | none => exact .inl rfl
  | some r => exact ite_eq_or_eq _ _ _

/-! ### Outside the aperture (R272) -/

theorem routed_of_outside {addr : Nat} (h : ¬ (Config.baseAddr ≤ addr ∧ addr < Config.baseAddr + 0x8000))
    (dir : Direction) (size : Nat) (data : Word) : routed dir size addr data = [] := by
  unfold routed
  rw [routeAddress_of_outside h]

/-- Settles O9: the step answers `accessResponse`, which is BUS_ERROR under the conditions stated, and no input comes
of an address outside the aperture. -/
theorem busErrorExactlyWhenStated : Obligations.BusErrorExactlyWhenStated := by
  refine ⟨fun s a rest hp hc => ?_, fun dir size addr data hout => routed_of_outside hout dir size data⟩
  obtain ⟨u, hstep, ⟨hpending, hresponses⟩, hrefused⟩ := step_of_access hp hc
  refine ⟨u.respond (accessResponse a s), accessResponse a s, hstep, hpending, ?_,
    accessResponse_eq_busError_iff_stated a s, fun hbus => ?_, fun hdir => accessResponse_read hdir s,
    fun hdir => accessResponse_write hdir s⟩
  · rw [State.respond_responses, hresponses, State.setPending_responses]
  · rw [hrefused hbus, hbus]
    rfl

end Sys2Proof.Machine
end

section
/-! PROOFS. Reset and INIT (70_reset_and_hazards.md): the reset state (R290, R291), INIT as one update of the state and
its repetition (R293, R294), and the infinite ELAPSED that only they end (R299). -/

namespace Sys2Proof.Machine

/-! ### Reset (R290, R291) -/

theorem reset_chSample_get (c : Channel) : State.reset.chSample[c] = 0x0000#16 := Vector.getElem_replicate c.isLt

theorem reset_cur_get (c : Channel) : State.reset.cur[c] = 0 := Vector.getElem_replicate c.isLt

theorem reset_slot (c : Channel) (i : Slot) : State.reset.slot c i = 0x0000#16 := rfl

/-- Settles O30: the registers by definition, and every staged sample, slot and cursor by its own lemma. -/
theorem resetValuesAreAsStated : Obligations.ResetValuesAreAsStated :=
  ⟨reset_chSample_get, rfl, rfl, rfl, rfl, rfl, rfl, rfl, rfl, reset_slot, reset_cur_get, rfl, configWord_eq, rfl⟩

/-- Settles O31: the reset state is IDLE and its registers meet the rest of the invariant. -/
theorem resetStateIsWellFormed : Obligations.ResetStateIsWellFormed :=
  (State.wf_iff _).mpr ⟨rfl, State.reset_registersWf⟩

/-- Settles O7: a step takes the reset from the queue before it looks at the control state. -/
theorem resetInputGivesResetState : Obligations.ResetInputGivesResetState :=
  fun _ _ hp => ⟨_, step_of_reset hp, rfl⟩

/-! ### The ring memory after every ring is reset (41_ring_buffer.md R140) -/

/-- A listed slot is one of the 5000. -/
theorem Memory.lt_of_mem_of_wfFrom {m : Memory} {p : Nat × F16} (hp : p ∈ m) :
    ∀ {lo : Nat}, Memory.wfFrom lo m = true → p.1 < 5000 := by
  induction m with
  | nil => exact nomatch hp
  | cons q m ih =>
    intro lo h
    simp only [Memory.wfFrom, Bool.and_eq_true, decide_eq_true_eq] at h
    obtain ⟨⟨⟨-, hq⟩, -⟩, hm⟩ := h
    rcases List.mem_cons.mp hp with rfl | hp
    · exact hq
    · exact ih hp hm

/-- The clearing of all 5000 slots leaves nothing of a memory in canonical form. -/
theorem Memory.clear_all_of_wf {m : Memory} (h : Memory.wf m = true) : Memory.clear 0 5000 m = [] := by
  refine List.filter_eq_nil_iff.mpr fun p hp => ?_
  have hlt := Memory.lt_of_mem_of_wfFrom hp h
  simp [hlt]

theorem Memory.clear_clear (base n : Nat) (m : Memory) :
    Memory.clear base n (Memory.clear base n m) = Memory.clear base n m := by
  simp only [Memory.clear, List.filter_filter, Bool.and_self]

theorem Memory.clear_none (base : Nat) (m : Memory) : Memory.clear base 0 m = m :=
  List.filter_eq_self.mpr fun p _ => by simp [Nat.lt_or_ge]

/-- The clearing of two neighbouring ranges is the clearing of both at once. -/
theorem Memory.clear_append (base n k : Nat) (m : Memory) :
    Memory.clear (base + n) k (Memory.clear base n m) = Memory.clear base (n + k) m := by
  simp only [Memory.clear, List.filter_filter]
  refine List.filter_congr fun p _ => ?_
  rw [Bool.eq_iff_iff]
  simp only [Bool.and_eq_true, Bool.not_eq_true', Bool.and_eq_false_iff, decide_eq_false_iff_not]
  omega

/-- The slot numbers of channel c are the 250 from 250 * c on, so resetting the 20 rings clears all 5000. -/
theorem rbResetAll_rb (s : State) : (rbResetAll s).rb = Memory.clear 0 5000 s.rb := by
  have hfold : ∀ (n : Nat) (l : List Channel) (t : State), l.map Fin.val = List.range' n l.length →
      (l.foldl (fun u c => rbReset c u) t).rb = Memory.clear (250 * n) (250 * l.length) t.rb := by
    intro n l
    induction l generalizing n with
    | nil => intro t _; exact (Memory.clear_none _ _).symm
    | cons c l ih =>
      intro t hl
      rw [List.map_cons, List.length_cons, List.range'_succ] at hl
      obtain ⟨rfl, hl⟩ := List.cons.inj hl
      rw [List.foldl_cons, ih _ _ hl, List.length_cons, Nat.mul_succ, Nat.mul_succ, Nat.add_comm (250 * l.length)]
      exact Memory.clear_append _ _ _ _
  exact hfold 0 (List.finRange 20) s (by decide)

theorem rbResetAll_cur (s : State) : (rbResetAll s).cur = Vector.replicate 20 0 := by
  have hfold : ∀ (l : List Channel) (t : State) (c : Channel),
      (l.foldl (fun u c => rbReset c u) t).cur[c] = if c ∈ l then 0 else t.cur[c] := by
    intro l
    induction l with
    | nil => intro t c; simp
    | cons a l ih =>
      intro t c
      rw [List.foldl_cons, ih, rbReset_cur]
      by_cases hc : c = a <;> simp [hc]
  refine Vector.ext fun i hi => ?_
  rw [Vector.getElem_replicate]
  exact (hfold (List.finRange 20) s ⟨i, hi⟩).trans (if_pos (List.mem_finRange _))

/-! ### INIT (R169, R293, R294) -/

/-- INIT as one update of the state. -/
theorem exec_init_eq (s : State) : exec .init s = .next
    { s with elapsed := 0x0000#16, freqOut := 0x0000#16, peakBin := 0#9, peakMag2 := 0x0000#16, ready := false,
             errcode := 0#4, rb := Memory.clear 0 5000 s.rb, cur := Vector.replicate 20 0, control := .idle,
             responses := s.responses ++ [.ok] } := by
  rw [exec_init, inCompute, initEffect, rbResetAll_frame, State.withRings, rbResetAll_rb, rbResetAll_cur]
  rfl

/-- Settles O23: `exec_init_eq`, with every slot among the 5000 cleared. -/
theorem initClearsEstimator : Obligations.InitClearsEstimator := by
  intro s
  refine ⟨_, exec_init_eq s, rfl, fun c i => ?_, fun hwf => ?_⟩
  · have hi := slotNumber_lt c i
    rw [State.slot, Memory.read_clear, if_pos (by omega)]
  · rw [Memory.clear_all_of_wf hwf]
    rfl

/-- Settles O24: clearing the ring memory again, or clearing the empty one, changes nothing. -/
theorem initIsIdempotent : Obligations.InitIsIdempotent := by
  refine ⟨fun s t hexec => ⟨_, exec_init_eq t, ?_⟩, _, exec_init_eq State.reset, rfl⟩
  rw [exec_init_eq] at hexec
  cases hexec
  rw [Memory.clear_clear]

/-! ### The infinite ELAPSED (R299) -/

theorem infinity_add16_interval {si : F16} (hsi : gt16 si zero16 = true) : add16 0x7C00#16 si = 0x7C00#16 := by
  obtain ⟨hnonneg, -⟩ := gt16_zero_cases hsi
  obtain ⟨hsign, hnan⟩ := (nonNegative16_iff si).mp hnonneg
  simp [add16, hsign, hnan, show isNaN16 0x7C00#16 = false by decide, show isInf16 0x7C00#16 = true by decide,
    show sign16 0x7C00#16 = false by decide]

/-- No accepted interval closes the gate on an infinite ELAPSED, and 1.0 less leaves it infinite. -/
theorem infinite_gate {si : F16} (hsi : gt16 si zero16 = true) :
    lt16 (add16 0x7C00#16 si) one16 = false ∧ elapsedAfterStep 0x7C00#16 si = 0x7C00#16 := by
  have hopen : lt16 (add16 0x7C00#16 si) one16 = false := by rw [infinity_add16_interval hsi]; decide
  refine ⟨hopen, ?_⟩
  rw [elapsedAfterStep_of_open hopen, infinity_add16_interval hsi]
  decide

/-- A STEP whose frame is not accepted fails one of the two checks. -/
theorem stepEffect_of_not_frameAccepted {s : State} (h : frameAccepted s = false) :
    ∃ code, stepEffect s = s.reject code := by
  rcases Nat.lt_or_ge 20 s.numChannels.toNat with hnc | hnc
  · exact ⟨_, stepEffect_of_error (stepError_of_channels _ hnc)⟩
  · have hsi : gt16 s.sampleInterval zero16 = false := by simpa [frameAccepted, hnc] using h
    exact ⟨_, stepEffect_of_error (stepError_of_interval hnc hsi)⟩

theorem stepEffect_elapsed_infinite {s : State} (h : s.elapsed = 0x7C00#16) : (stepEffect s).elapsed = 0x7C00#16 := by
  cases hframe : frameAccepted s with
  | true =>
    obtain ⟨-, hsi⟩ := (frameAccepted_iff s).mp hframe
    obtain ⟨-, -, helapsed⟩ := stepEffect_gate hframe
    rw [helapsed, h]
    exact (infinite_gate hsi).2
  | false =>
    obtain ⟨code, he⟩ := stepEffect_of_not_frameAccepted hframe
    rw [he]
    exact h

/-- Every effect but that of INIT keeps an infinite ELAPSED. -/
theorem InstrEffect.elapsed_infinite {i : Instr} {f : State → State} (hf : InstrEffect i f) (hinit : i ≠ .init)
    (hcmd : i ≠ .wrCmd 1#32) {s : State} (h : s.elapsed = 0x7C00#16) : (f s).elapsed = 0x7C00#16 := by
  cases hf with
  | responds r => exact h
  | reads r => exact h
  | writesNumChannels w _ => exact h
  | writesSampleInterval w _ => exact h
  | writesChSample c w _ => exact h
  | inits hi => exact absurd hi (not_or.mpr ⟨hinit, hcmd⟩)
  | steps _ => exact stepEffect_elapsed_infinite (s := s.setControl .compute) h
  | rejects w _ => exact h

/-- Settles O37: the effects of the instructions keep the infinity, and an accepted STEP finds the gate open. -/
theorem infiniteElapsedLastsUntilInit : Obligations.InfiniteElapsedLastsUntilInit := by
  intro i s t h hexec
  obtain ⟨f, heffect, -, ht⟩ := exec_inv hexec
  refine ⟨fun hinit hcmd => ?_, fun hi hframe => ?_, fun hi => ?_, rfl⟩
  · rw [ht]
    exact heffect.elapsed_infinite hinit hcmd h
  · subst hi
    obtain ⟨-, hsi⟩ := (frameAccepted_iff s).mp hframe
    obtain ⟨hready, -, -⟩ := exec_step_gate hframe hexec
    rw [hready, gateOpens, h, (infinite_gate hsi).1]
    rfl
  · subst hi
    rw [exec_init_eq] at hexec
    cases hexec
    rfl

end Sys2Proof.Machine
end

section
/-! PROOFS. A NaN or an infinity among the samples (70_reset_and_hazards.md R303, log 13): it reaches every word of its
channel's spectrum and of the sum, and from every snapshot position but 1 it is a NaN in word 0. -/

namespace Sys2Proof.Machine

/-! ### What no sum or product gets rid of (40_fp16.md R104 to R107) -/

/-- A sum or product with an operand of the class P has the class P, and so has the negation of a value of P. -/
structure Absorbing (P : F16 → Prop) : Prop where
  add : ∀ {a b}, P a ∨ P b → P (add16 a b)
  mul : ∀ {a b}, P a ∨ P b → P (mul16 a b)
  neg : ∀ {a}, P a → P (neg16 a)

theorem Absorbing.sub {P : F16 → Prop} (hP : Absorbing P) {a b : F16} (h : P a ∨ P b) : P (sub16 a b) :=
  hP.add (h.imp_right hP.neg)

/-- The class of the NaNs. -/
def IsNaN (x : F16) : Prop := isNaN16 x = true

/-- The classes without a value: the NaNs and the infinities. -/
def NotFinite (x : F16) : Prop := isFinite16 x = false

theorem isNaN16_neg16 (x : F16) : isNaN16 (neg16 x) = isNaN16 x := by
  rw [← pack16_fields x, neg16_pack16, isNaN16_pack16, isNaN16_pack16]

theorem absorbing_isNaN : Absorbing IsNaN where
  add {a b} h := by
    have hnan : (isNaN16 a || isNaN16 b) = true := (Bool.or_eq_true _ _).mpr h
    rw [add16, if_pos hnan]
    exact isNaN16_qnan
  mul {a b} h := by
    have hnan : (isNaN16 a || isNaN16 b) = true := (Bool.or_eq_true _ _).mpr h
    rw [mul16, if_pos hnan]
    exact isNaN16_qnan
  neg h := (isNaN16_neg16 _).trans h

theorem isFinite16_eq_false_iff (x : F16) : isFinite16 x = false ↔ isNaN16 x = true ∨ isInf16 x = true := by
  by_cases hfrac : frac16 x = 0 <;> simp [isFinite16, isNaN16, isInf16, hfrac]

theorem isFinite16_qnan16 : isFinite16 qnan16 = false := by decide

theorem isFinite16_add16_left {a : F16} (b : F16) (h : isFinite16 a = false) : isFinite16 (add16 a b) = false := by
  rcases (isFinite16_eq_false_iff a).mp h with hn | hi
  · exact (isFinite16_eq_false_iff _).mpr (.inl (absorbing_isNaN.add (.inl hn)))
  · unfold add16
    split_ifs
    · exact isFinite16_qnan16
    · exact isFinite16_qnan16
    · exact h

theorem isFinite16_mul16_left {a : F16} (b : F16) (h : isFinite16 a = false) : isFinite16 (mul16 a b) = false := by
  rcases (isFinite16_eq_false_iff a).mp h with hn | hi
  · exact (isFinite16_eq_false_iff _).mpr (.inl (absorbing_isNaN.mul (.inl hn)))
  · unfold mul16
    rw [hi, Bool.true_or, if_pos rfl]
    split_ifs
    · exact isFinite16_qnan16
    · exact isFinite16_qnan16
    · exact isFinite16_signedInf16 _

/-- Only a NaN or an infinity comes of a NaN or an infinity. -/
theorem absorbing_notFinite : Absorbing NotFinite where
  add {a b} h := h.elim (isFinite16_add16_left b) fun hb => add16_comm b a ▸ isFinite16_add16_left a hb
  mul {a b} h := h.elim (isFinite16_mul16_left b) fun hb => mul16_comm b a ▸ isFinite16_mul16_left a hb
  neg h := (isFinite16_neg16 _).trans h

/-- A NaN or an infinity times +0 is a NaN. -/
theorem isNaN_mul16_zero {x : F16} (h : NotFinite x) : IsNaN (mul16 x zero16) := by
  rcases (isFinite16_eq_false_iff x).mp h with hn | hi
  · exact absorbing_isNaN.mul (.inl hn)
  · have hx : mul16 x zero16 = qnan16 := by simp [mul16, hi, isZero16_zero16]
    rw [hx]
    exact isNaN16_qnan

/-! ### The butterflies (44_window_rfft.md R216) -/

/-- A part of the complex value has the class P. -/
def HasPart (P : F16 → Prop) (p : Complex16) : Prop := P p.1 ∨ P p.2

section Butterfly
variable {P : F16 → Prop} (hP : Absorbing P) {p t q : Complex16}
include hP

theorem Absorbing.twiddle (tw : Complex16) (h : HasPart P q) : HasPart P (twiddle tw q) :=
  .inl (hP.add (h.imp (fun hre => hP.mul (.inr hre)) fun him => hP.mul (.inr him)))

theorem Absorbing.butterflies (h : HasPart P p ∨ HasPart P t) :
    HasPart P (butterflyAdd p t) ∧ HasPart P (butterflySub p t) := by
  rcases h with (h | h) | h | h
  · exact ⟨.inl (hP.add (.inl h)), .inl (hP.sub (.inl h))⟩
  · exact ⟨.inr (hP.add (.inl h)), .inr (hP.sub (.inl h))⟩
  · exact ⟨.inl (hP.add (.inr h)), .inl (hP.sub (.inr h))⟩
  · exact ⟨.inr (hP.add (.inr h)), .inr (hP.sub (.inr h))⟩

end Butterfly

/-- A twiddle of sine +0 multiplies both parts by +0, which makes a NaN of an infinity. -/
theorem isNaN_twiddle_of_sine_zero {tw q : Complex16} (htw : tw.2 = zero16) (hq : HasPart NotFinite q) :
    HasPart IsNaN (twiddle tw q) := by
  rw [twiddle, htw, mul16_comm zero16, mul16_comm zero16]
  rcases hq with hre | him
  · exact .inr (absorbing_isNaN.sub (.inr (isNaN_mul16_zero hre)))
  · exact .inl (absorbing_isNaN.add (.inr (isNaN_mul16_zero him)))

/-! ### One stage (R216) -/

/-- Value j of block b, in blocks of 2^n values. -/
def blockValue (n b j : Nat) (a : List Complex16) : Complex16 := a.getD (b * 2 ^ n + j) (zero16, zero16)

/-- In the block of 2^n values around place r every value has a part of the class P. -/
def BlockHas (P : F16 → Prop) (n r : Nat) (a : List Complex16) : Prop :=
  ∀ j, j < 2 ^ n → HasPart P (blockValue n (r / 2 ^ n) j a)

/-- In the block of 2^n values around place r the first value has a NaN part. -/
def HeadIsNaN (n r : Nat) (a : List Complex16) : Prop := HasPart IsNaN (blockValue n (r / 2 ^ n) 0 a)

/-- The block of 2^n values around r is one of the two halves of the block of 2^(n + 1) values around it. -/
theorem div_pow_halves (n r : Nat) :
    r / 2 ^ n = 2 * (r / 2 ^ (n + 1)) ∨ r / 2 ^ n = 2 * (r / 2 ^ (n + 1)) + 1 := by
  rw [Nat.pow_succ, ← Nat.div_div_eq_div_mul]
  omega

section Stage
variable {n b j r : Nat} {a : List Complex16} (hn : n < 9) (ha : a.length = 512)
include hn ha

/-- A stage joins the blocks 2b and 2b + 1 to block b: its butterflies take the upper input from the one and the lower
from the other, and the first of them has the sine +0. -/
theorem stage_blockValue (hb : b < 512 / 2 ^ (n + 1)) (hj : j < 2 ^ n) :
    ∃ tw, (j = 0 → tw.2 = zero16) ∧
      let p := blockValue n (2 * b) j a
      let t := twiddle tw (blockValue n (2 * b + 1) j a)
      blockValue (n + 1) b j (stage (n + 1) a) = butterflyAdd p t ∧
        blockValue (n + 1) b (2 ^ n + j) (stage (n + 1) a) = butterflySub p t := by
  have hhalf : 2 ^ (n + 1) / 2 = 2 ^ n := by rw [Nat.pow_succ]; omega
  have hupper : 2 * b * 2 ^ n + j = b * 2 ^ (n + 1) + j := by rw [Nat.pow_succ]; ring
  have hlower : (2 * b + 1) * 2 ^ n + j = b * 2 ^ (n + 1) + j + 2 ^ n := by rw [Nat.pow_succ]; ring
  have hout : b * 2 ^ (n + 1) + (2 ^ n + j) = b * 2 ^ (n + 1) + j + 2 ^ n := by omega
  have hsine : sin1024 0 = zero16 := by decide
  obtain ⟨hadd, hsub⟩ := stage_getElem? n.succ_pos (by omega) ha hb (hhalf.symm ▸ hj)
  rw [hhalf] at hadd hsub
  refine ⟨(cos1024 (2 * j * (512 / 2 ^ (n + 1))), sin1024 (2 * j * (512 / 2 ^ (n + 1)))), ?_, ?_, ?_⟩
  · rintro rfl
    rw [Nat.mul_zero, Nat.zero_mul, hsine]
  · rw [blockValue, blockValue, blockValue, hupper, hlower, List.getD_eq_getElem?_getD, hadd]
    rfl
  · rw [blockValue, blockValue, blockValue, hupper, hlower, hout, List.getD_eq_getElem?_getD, hsub]
    rfl

variable (hr : r < 512)
include hr

omit ha in
theorem block_lt : r / 2 ^ (n + 1) < 512 / 2 ^ (n + 1) := by
  obtain ⟨-, hblocks⟩ := stage_sizes n.succ_pos hn
  exact (Nat.div_lt_iff_lt_mul (by positivity)).mpr (lt_of_lt_of_eq hr hblocks.symm)

/-- A class that fills the block around r fills the joined block after the stage. -/
theorem stage_blockHas {P : F16 → Prop} (hP : Absorbing P) (h : BlockHas P n r a) :
    BlockHas P (n + 1) r (stage (n + 1) a) := by
  have hout : ∀ j, j < 2 ^ n → HasPart P (blockValue (n + 1) (r / 2 ^ (n + 1)) j (stage (n + 1) a)) ∧
      HasPart P (blockValue (n + 1) (r / 2 ^ (n + 1)) (2 ^ n + j) (stage (n + 1) a)) := fun j hj => by
    obtain ⟨tw, -, hadd, hsub⟩ := stage_blockValue hn ha (block_lt hn hr) hj
    have hin := h j hj
    rw [hadd, hsub]
    rcases div_pow_halves n r with hhalf | hhalf
    · rw [hhalf] at hin
      exact hP.butterflies (.inl hin)
    · rw [hhalf] at hin
      exact hP.butterflies (.inr (hP.twiddle tw hin))
  intro j hj
  rcases Nat.lt_or_ge j (2 ^ n) with hlt | hge
  · exact (hout j hlt).1
  · have hj' : j - 2 ^ n < 2 ^ n := by rw [Nat.pow_succ] at hj; omega
    have hlower := (hout _ hj').2
    rwa [Nat.add_sub_cancel' hge] at hlower

/-- The first value of the joined block is a NaN when that of the block around r is one, or when the block is the lower
half and its first value has no finite value. -/
theorem stage_headIsNaN (h : HeadIsNaN n r a ∨ r / 2 ^ n % 2 = 1 ∧ BlockHas NotFinite n r a) :
    HeadIsNaN (n + 1) r (stage (n + 1) a) := by
  obtain ⟨tw, hsine, hadd, -⟩ := stage_blockValue hn ha (block_lt hn hr) (Nat.two_pow_pos n)
  have hin : HasPart IsNaN (blockValue n (2 * (r / 2 ^ (n + 1))) 0 a) ∨
      HasPart IsNaN (twiddle tw (blockValue n (2 * (r / 2 ^ (n + 1)) + 1) 0 a)) := by
    rcases div_pow_halves n r with hhalf | hhalf
    · rcases h with h | ⟨hodd, -⟩
      · exact .inl (hhalf ▸ h)
      · omega
    · rcases h with h | ⟨-, h⟩
      · exact .inr (absorbing_isNaN.twiddle tw (hhalf ▸ h))
      · exact .inr (isNaN_twiddle_of_sine_zero (hsine rfl) (hhalf ▸ h 0 (Nat.two_pow_pos n)))
  rw [HeadIsNaN, hadd]
  exact (absorbing_isNaN.butterflies hin).1

end Stage

/-! ### The nine stages -/

/-- The first n stages. -/
def stagePrefix (n : Nat) (a : List Complex16) : List Complex16 := (List.range' 1 n).foldl (fun t s => stage s t) a

theorem stages_eq_stagePrefix (a : List Complex16) : stages a = stagePrefix 9 a := rfl

theorem stagePrefix_succ (n : Nat) (a : List Complex16) : stagePrefix (n + 1) a = stage (n + 1) (stagePrefix n a) := by
  rw [stagePrefix, List.range'_1_concat, List.foldl_concat, Nat.add_comm 1 n]
  rfl

section Stages
variable {r : Nat} {a : List Complex16} (ha : a.length = 512)
include ha

theorem stagePrefix_length : ∀ n, n ≤ 9 → (stagePrefix n a).length = 512
  | 0, _ => ha
  | n + 1, hn => by
    rw [stagePrefix_succ]
    exact stage_length ⟨n.succ_pos, hn⟩ (stagePrefix_length n (by omega))

variable (hr : r < 512)
include hr

theorem stagePrefix_blockHas {P : F16 → Prop} (hP : Absorbing P) (h : HasPart P (a.getD r (zero16, zero16))) :
    ∀ n, n ≤ 9 → BlockHas P n r (stagePrefix n a)
  | 0, _ => fun j hj => by
    obtain rfl : j = 0 := by omega
    rw [blockValue, Nat.pow_zero, Nat.div_one, Nat.mul_one]
    exact h
  | n + 1, hn => by
    rw [stagePrefix_succ]
    exact stage_blockHas hn (stagePrefix_length ha n (by omega)) hr hP (stagePrefix_blockHas hP h n (by omega))

/-- From the first stage on in which place r is in the lower half, the first value of its block is a NaN. -/
theorem stagePrefix_headIsNaN (h : HasPart NotFinite (a.getD r (zero16, zero16))) :
    ∀ n, n ≤ 9 → r % 2 ^ n ≠ 0 → HeadIsNaN n r (stagePrefix n a)
  | 0, _, hne => absurd (Nat.mod_one r) hne
  | n + 1, hn, hne => by
    rw [stagePrefix_succ]
    refine stage_headIsNaN hn (stagePrefix_length ha n (by omega)) hr ?_
    rw [Nat.mod_pow_succ] at hne
    rcases Nat.mod_two_eq_zero_or_one (r / 2 ^ n) with heven | hodd
    · rw [heven, Nat.mul_zero, Nat.add_zero] at hne
      exact .inl (stagePrefix_headIsNaN h n (by omega) hne)
    · exact .inr ⟨hodd, stagePrefix_blockHas ha hr absorbing_notFinite h n (by omega)⟩

/-- The stages bring the class of any one value to all 512. -/
theorem stages_hasPart {P : F16 → Prop} (hP : Absorbing P) (h : HasPart P (a.getD r (zero16, zero16))) {k : Nat}
    (hk : k < 512) : HasPart P ((stages a).getD k (zero16, zero16)) := by
  have hblock := stagePrefix_blockHas ha hr hP h 9 le_rfl k hk
  have hdiv : r / 2 ^ 9 = 0 := Nat.div_eq_of_lt hr
  rwa [blockValue, hdiv, Nat.zero_mul, Nat.zero_add, ← stages_eq_stagePrefix] at hblock

/-- An infinity at any place but 0 makes a NaN of Z[0]. -/
theorem stages_zero_isNaN (hr0 : r ≠ 0) (h : HasPart NotFinite (a.getD r (zero16, zero16))) :
    HasPart IsNaN ((stages a).getD 0 (zero16, zero16)) := by
  have hmod : r % 2 ^ 9 = r := Nat.mod_eq_of_lt hr
  have hdiv : r / 2 ^ 9 = 0 := Nat.div_eq_of_lt hr
  have hhead := stagePrefix_headIsNaN ha hr h 9 le_rfl (by rwa [hmod])
  rwa [HeadIsNaN, blockValue, hdiv, Nat.zero_mul, ← stages_eq_stagePrefix] at hhead

end Stages

/-! ### The split and REF (R214 to R218) -/

section Spectrum
variable {P : F16 → Prop} (hP : Absorbing P)
include hP

theorem Absorbing.splitBin (tw u : Complex16) {a : Complex16} (h : HasPart P a) : ∀ x ∈ splitBin tw a u, P x := by
  rcases h with hre | him
  · have her : P (mul16 (add16 a.1 u.1) half16) := hP.mul (.inl (hP.add (.inl hre)))
    have hoi : P (neg16 (mul16 (sub16 a.1 u.1) half16)) := hP.neg (hP.mul (.inl (hP.sub (.inl hre))))
    exact List.forall_mem_cons.mpr ⟨hP.add (.inl her),
      List.forall_mem_singleton.mpr (hP.add (.inr (hP.sub (.inl (hP.mul (.inr hoi))))))⟩
  · have hei : P (mul16 (sub16 a.2 u.2) half16) := hP.mul (.inl (hP.sub (.inl him)))
    have hor : P (mul16 (add16 a.2 u.2) half16) := hP.mul (.inl (hP.add (.inl him)))
    exact List.forall_mem_cons.mpr ⟨hP.add (.inr (hP.add (.inl (hP.mul (.inr hor))))),
      List.forall_mem_singleton.mpr (hP.add (.inl hei))⟩

theorem Absorbing.split {z : List Complex16} (h : ∀ k, k < 512 → HasPart P (z.getD k (zero16, zero16))) :
    ∀ x ∈ split z, P x := by
  refine List.forall_mem_append.mpr ⟨List.forall_mem_cons.mpr
    ⟨hP.add (h 0 (by decide)), List.forall_mem_singleton.mpr (hP.sub (h 0 (by decide)))⟩, fun x hx => ?_⟩
  obtain ⟨k, hk, hx⟩ := List.mem_flatMap.mp hx
  have hk : 1 ≤ k ∧ k < 1 + 511 := List.mem_range'_1.mp hk
  exact hP.splitBin _ _ (h k (by omega)) x hx

variable {td : List F16} (htd : td.length = 1024) {i : Nat} (hi : i < 1024)
include htd hi

omit hP in
/-- Word i of TD enters the stages at the place of its pair i / 2. -/
theorem hasPart_bitReverse (h : P (td.getD i zero16)) :
    HasPart P ((bitReverse (packPairs td)).getD (rev9 (i / 2)) (zero16, zero16)) := by
  have hpair : i / 2 < 512 := by omega
  rw [List.getD_eq_getElem?_getD, bitReverse_getElem? _ (rev9_lt _), rev9_rev9 hpair, List.getD_eq_getElem?_getD,
    packPairs_getElem? td (i / 2) (by omega)]
  rcases Nat.mod_two_eq_zero_or_one i with heven | hodd
  · exact .inl (show P (td.getD (2 * (i / 2)) zero16) by rwa [show 2 * (i / 2) = i by omega])
  · exact .inr (show P (td.getD (2 * (i / 2) + 1) zero16) by rwa [show 2 * (i / 2) + 1 = i by omega])

/-- The class of any one word of TD is that of every word of its spectrum. -/
theorem Absorbing.refTransform (h : P (td.getD i zero16)) {n : Nat} (hn : n < 1024) :
    P ((refTransform td).getD n zero16) := by
  have hwords : ∀ x ∈ Machine.refTransform td, P x :=
    hP.split fun _ hk => stages_hasPart (bitReverse_length _) (rev9_lt _) hP (hasPart_bitReverse htd hi h) hk
  rw [List.getD_eq_getElem _ _ (lt_of_lt_of_eq hn (refTransform_length td).symm)]
  exact hwords _ (List.getElem_mem _)

omit hP in
/-- An infinity at a position from 2 on makes a NaN of word 0 of the spectrum. -/
theorem refTransform_zero_isNaN (h2 : 2 ≤ i) (h : NotFinite (td.getD i zero16)) :
    IsNaN ((refTransform td).getD 0 zero16) := by
  have hne : rev9 (i / 2) ≠ 0 := rev9_ne_zero (by omega) (by omega)
  exact absorbing_isNaN.add
    (stages_zero_isNaN (bitReverse_length _) (rev9_lt _) hne (hasPart_bitReverse htd hi h))

end Spectrum

/-! ### The spectrum of a channel with such a sample (R211) -/

section Channel
variable {s : State} {c : Channel} {j : Slot}

theorem tapered_snapshot (s : State) (c : Channel) (j : Slot) :
    (taper (rbSnapshot c s)).getD j.val zero16 = mul16 (snapshotAt c j s) (hann j.val) := by
  obtain ⟨-, hword, -⟩ := taperMultipliesThenZeroFills (rbSnapshot c s) (rbSnapshot_length c s)
  rw [hword j.val j.isLt]
  congr 1
  simp [rbSnapshot]

/-- Any class that a product keeps reaches every word of the channel's spectrum. -/
theorem Absorbing.spectrumOf {P : F16 → Prop} (hP : Absorbing P) (h : P (snapshotAt c j s)) {n : Nat}
    (hn : n < 1024) : P ((spectrumOf c s).getD n zero16) := by
  refine hP.refTransform (taper_length (rbSnapshot_length c s)) (i := j.val) (by omega) ?_ hn
  rw [tapered_snapshot]
  exact hP.mul (.inl h)

/-- An infinity at position 0 is a NaN already in TD, since HANN[0] is +0; from position 2 on it becomes one on the way
to Z[0]. -/
theorem spectrumOf_zero_isNaN (h : NotFinite (snapshotAt c j s)) (hj : j ≠ 1) :
    IsNaN ((spectrumOf c s).getD 0 zero16) := by
  have htd := taper_length (rbSnapshot_length c s)
  have hword := tapered_snapshot s c j
  by_cases h0 : j = 0
  · have hhann : hann j.val = zero16 := by rw [h0]; decide
    refine absorbing_isNaN.refTransform htd (i := j.val) (by omega) ?_ (by decide)
    rw [hword, hhann]
    exact isNaN_mul16_zero h
  · have h2 : 2 ≤ j.val := by
      have hne0 : j.val ≠ 0 := Fin.val_ne_of_ne h0
      have hne1 : j.val ≠ 1 := Fin.val_ne_of_ne hj
      omega
    refine refTransform_zero_isNaN htd (by omega) h2 ?_
    rw [hword]
    exact absorbing_notFinite.mul (.inl h)

end Channel

/-! ### The sum over the channels (R222) -/

/-- Word n of the sum: the channels' words n added one after the other to +0. -/
def spectralWord (nc : Word) (n : Nat) (s : State) : F16 :=
  (activeChannels nc).foldl (fun x c => add16 x ((spectrumOf c s).getD n zero16)) zero16

theorem spectralSumOf_getElem? (nc : Word) (s : State) {n : Nat} (hn : n < 1024) :
    (spectralSumOf nc s)[n]? = some (spectralWord nc n s) := by
  have hfold : ∀ (l : List Channel) (acc : List F16) (x : F16), acc[n]? = some x →
      (l.foldl (fun acc c => List.zipWith add16 acc (spectrumOf c s)) acc)[n]? =
        some (l.foldl (fun x c => add16 x ((spectrumOf c s).getD n zero16)) x) := by
    intro l
    induction l with
    | nil => intro acc x h; exact h
    | cons c l ih =>
      intro acc x h
      have hlen : n < (spectrumOf c s).length := lt_of_lt_of_eq hn (spectrumOf_length c s).symm
      have hword : (spectrumOf c s)[n]? = some ((spectrumOf c s).getD n zero16) := by
        rw [List.getD_eq_getElem _ _ hlen, List.getElem?_eq_getElem hlen]
      refine ih _ _ ?_
      simp only [List.getElem?_zipWith, h, hword]
  refine hfold _ _ _ ?_
  rw [List.getElem?_replicate, if_pos hn]

/-- A class that a sum keeps is that of the sum when it is that of one channel. -/
theorem Absorbing.spectralWord {P : F16 → Prop} (hP : Absorbing P) {nc : Word} {n : Nat} {s : State} {c : Channel}
    (hc : c.val < nc.toNat) (h : P ((Machine.spectrumOf c s).getD n zero16)) : P (spectralWord nc n s) := by
  obtain ⟨before, after, hsplit⟩ := List.append_of_mem ((mem_activeChannels nc c).mpr hc)
  rw [Machine.spectralWord, hsplit, List.foldl_append, List.foldl_cons]
  exact foldl_keeps P _ (fun _ _ hx => hP.add (.inl hx)) after _ (hP.add (.inr h))

theorem nanIsQnan16_spectralWord (nc : Word) (n : Nat) (s : State) : nanIsQnan16 (spectralWord nc n s) :=
  foldl_keeps nanIsQnan16 _ (fun _ _ _ => nanIsQnan16_add16 _ _) _ _ (nanIsQnan16_of_isNaN16 (by decide))

/-! ### The detection (45_detect.md R250, R251) -/

/-- Nothing is greater than a NaN or +infinity. -/
theorem gt16_of_notFinite (w : F16) {v : F16} (h : NotFinite v) (hsign : sign16 v = false) : gt16 w v = false := by
  rcases (isFinite16_eq_false_iff v).mp h with hn | hi
  · exact gt16_of_isNaN16 (.inr hn)
  · simp [gt16, lt16, hi, hsign]

/-- The magnitude of a bin whose real part has no finite value is QNAN16 or +infinity. -/
theorem magSquared_of_notFinite {re : F16} (im : F16) (h : NotFinite re) :
    NotFinite (magSquared re im) ∧ (magSquared re im = 0x7E00#16 ∨ magSquared re im = 0x7C00#16) := by
  have hmag : NotFinite (magSquared re im) := absorbing_notFinite.add (.inl (absorbing_notFinite.mul (.inl h)))
  refine ⟨hmag, ?_⟩
  rcases (isFinite16_eq_false_iff _).mp hmag with hn | hi
  · exact .inl (nanIsQnan16_add16 _ _ hn)
  · rw [← signedInf16_of_isInf16 hi, sign16_magSquared]
    exact .inr (by decide)

theorem magSquared_of_isNaN {re : F16} (im : F16) (h : IsNaN re) : magSquared re im = 0x7E00#16 :=
  nanIsQnan16_add16 _ _ (absorbing_isNaN.add (.inl (absorbing_isNaN.mul (.inl h))))

/-- When word 0 has no finite value the peak is bin 0, whatever the other words are. -/
theorem peak_magnitudes_of_notFinite {re im : F16} (acc : List F16) (h : NotFinite re) :
    peak (magnitudes (re :: im :: acc)) = (0, magSquared re im) :=
  peakFrom_of_not_gt _ 1 fun w _ => gt16_of_notFinite w (magSquared_of_notFinite im h).1 (sign16_magSquared re im)

theorem peak_spectralSumOf {nc : Word} {s : State} (h : NotFinite (spectralWord nc 0 s)) :
    peak (magnitudes (spectralSumOf nc s)) = (0, magSquared (spectralWord nc 0 s) (spectralWord nc 1 s)) := by
  have h0 := spectralSumOf_getElem? nc s (n := 0) (by decide)
  have h1 := spectralSumOf_getElem? nc s (n := 1) (by decide)
  match hsum : spectralSumOf nc s with
  | [] => rw [hsum] at h0; cases h0
  | [_] => rw [hsum] at h1; cases h1
  | re :: im :: acc =>
    rw [hsum] at h0 h1
    cases h0
    cases h1
    exact peak_magnitudes_of_notFinite acc h

/-- A NaN in an active channel makes every word of the sum QNAN16. -/
theorem spectralSumOf_of_isNaN {nc : Word} {s : State} {c : Channel} {j : Slot} (hc : c.val < nc.toNat)
    (h : IsNaN (snapshotAt c j s)) : spectralSumOf nc s = List.replicate 1024 0x7E00#16 := by
  refine List.eq_replicate_iff.mpr ⟨spectralSumOf_length nc s, fun x hx => ?_⟩
  obtain ⟨n, hlen, rfl⟩ := List.getElem_of_mem hx
  have hn : n < 1024 := lt_of_lt_of_eq hlen (spectralSumOf_length nc s)
  rw [(List.getElem_eq_iff hlen).mpr (spectralSumOf_getElem? nc s hn)]
  exact nanIsQnan16_spectralWord nc n s (absorbing_isNaN.spectralWord hc (absorbing_isNaN.spectrumOf h hn))

/-- Settles O57: word 0 of the sum has no finite value, so bin 0 has the magnitude QNAN16 or +infinity and is the peak;
but for an infinity at position 1 that word is a NaN. -/
theorem naNSamplePoisonsThePass : Obligations.NaNSamplePoisonsThePass := by
  intro s c j hframe hgate hc hsample
  obtain ⟨t, hexec, hready, hbin, hmag, hfreq⟩ := exec_step_of_gateOpens hframe hgate
  obtain ⟨-, hsi⟩ := (frameAccepted_iff s).mp hframe
  have hword : NotFinite (spectralWord s.numChannels 0 (ingest s.numChannels s)) :=
    absorbing_notFinite.spectralWord hc (absorbing_notFinite.spectrumOf hsample (by decide))
  obtain ⟨-, hcases⟩ := magSquared_of_notFinite (spectralWord s.numChannels 1 (ingest s.numChannels s)) hword
  rw [peak_spectralSumOf hword] at hbin hmag hfreq
  refine ⟨t, hexec, hready, hbin, hfreq.trans (frequency_zero hsi), hmag ▸ hcases, fun hnan => ?_,
    spectralSumOf_of_isNaN hc⟩
  have hzero : IsNaN ((spectrumOf c (ingest s.numChannels s)).getD 0 zero16) :=
    hnan.elim (fun h => absorbing_isNaN.spectrumOf h (by decide)) (spectrumOf_zero_isNaN hsample)
  exact hmag.trans (magSquared_of_isNaN _ (absorbing_isNaN.spectralWord hc hzero))

end Sys2Proof.Machine
end
